-- ==== Sys2Proof/Word.lean ====
section
/-! DEFINITION. Words, addresses, object numbers and the small names the commands are made of. -/

namespace Sys2Proof

/-- One byte lane (Conventions: data words carry four byte lanes). -/
abbrev Byte := BitVec 8

/-- A 32-bit data word, and also a value of the µs or ms counter (R165). -/
abbrev Word := BitVec 32

/-- A 24-bit byte address (Conventions). -/
abbrev Addr := BitVec 24

/-- A 22-bit word address (10.5, the processor-side and memory-side buses). -/
abbrev WordAddr := BitVec 22

/-- A 10-bit analog sample, 0 to 1023 (R69, 10.5). -/
abbrev Amp := BitVec 10

/-- Which of the four byte lanes an access enables; bit i is lane i (chapter 11, opening). -/
abbrev Lanes := BitVec 4

/-- Heads H0 to H31. -/
abbrev HeadId := Fin 32

/-- Sections S0 to S23. -/
abbrev SectionId := Fin 24

/-- Request slots 0 to 7. -/
abbrev SlotId := Fin 8

/-- A place of the topology shadow, one per word of the topology window (R107). -/
abbrev Place := Fin 2048

/-- The two sensing systems of a head (R1). -/
inductive System where
  | sysA
  | sysB
  deriving DecidableEq, Repr

/-- A rising edge goes from undamped to damped, a falling edge back (R1). -/
inductive EdgeDir where
  | rising
  | falling
  deriving DecidableEq, Repr

/-- The direction of a traverse or of a test (R9, R92). -/
inductive Direction where
  | aToB
  | bToA
  deriving DecidableEq, Repr

/-- The two sides of a head (R28, R110). -/
inductive Side where
  | sideA
  | sideB
  deriving DecidableEq, Repr

/-- The two blocks that take the slow tick, each as an event of its own (R119, R166). -/
inductive SlowTaker where
  | supv
  | topo
  deriving DecidableEq, Repr

/-- The two claimants of the memory-side port (R133). -/
inductive Claimant where
  | access
  | word
  deriving DecidableEq, Repr

/-- One processor access: a word address, read or write, the lanes enabled and the write data
(chapter 7, introduction table). -/
structure Access where
  addr : WordAddr
  write : Bool
  lanes : Lanes
  data : Word
  deriving DecidableEq, Repr

/-- What comes to the memory-side port with a PORT_GRANT: the processor access that arrives, if any (R133), and the
claimant that is first where two meet at a free port and the manual leaves either (R134). -/
structure Arrival where
  access : Option Access
  first : Claimant
  deriving DecidableEq, Repr

/-- All four lanes: a full-width access (Conventions). -/
def fullLanes : Lanes := 0xF#4

/-- The other sensing system of the same head. -/
def System.other : System → System
  | .sysA => .sysB
  | .sysB => .sysA

/-- Whether the system is damped after the edge (R1). -/
def EdgeDir.damped : EdgeDir → Bool
  | .rising => true
  | .falling => false

end Sys2Proof
end

