-- ==== Sys2Proof/Syntax.lean ====
section
/-! DEFINITION. The commands: one constructor for each row of spec/opcode_table.json, in its order.
The rows give no fields; the operands are those the rule of the row speaks of (log entry 1). -/

namespace Sys2Proof

/-- The events and operations the part takes, each whole and indivisible. -/
inductive Instr where
  /-- EDGE (R1): `period` is the reference period within the present ms at which the edge is sampled. -/
  | edge (h : HeadId) (y : System) (d : EdgeDir) (period : Nat)
  /-- MS_TICK (R166). -/
  | msTick
  /-- DWELL_LIMIT_REACHED (R13). -/
  | dwellLimitReached (h : HeadId)
  /-- SUPERVISION_TICK (R70): head `h`'s update of SUPV's pass, with the samples of its two systems. -/
  | supervisionTick (h : HeadId) (ampA ampB : Amp)
  /-- RECOVERY_COMPLETE (R84): the supervision tick that brings the quiet count to 250. -/
  | recoveryComplete (h : HeadId) (ampA ampB : Amp)
  /-- RECOVERY_REPORT (R18). -/
  | recoveryReport (h : HeadId)
  /-- SETTLE_TICK (R37). -/
  | settleTick
  /-- SETTLE_WAIT_END (R38): the settle tick that ends the wait of the section. -/
  | settleWaitEnd (sec : SectionId)
  /-- SLOW_TICK (R85, R119), taken by SUPV or by TOPO. -/
  | slowTick (taker : SlowTaker)
  /-- RESTART_TIMEOUT (R85): the slow tick that brings the head's count to the restart limit. -/
  | restartTimeout (h : HeadId)
  /-- SHADOW_CORRUPTION (R119): the bits of `bits` change in the place. -/
  | shadowCorruption (place : Place) (bits : Word)
  /-- PASSAGE_EVENT (R33). -/
  | passageEvent (h : HeadId) (d : Direction)
  /-- SUSPECT_END_EVENT (R40). -/
  | suspectEndEvent (h : HeadId)
  /-- MOVEMENT_NOTICE (R41). -/
  | movementNotice (h : HeadId)
  /-- UNSETTLED_CHANGE_NOTICE (R42). -/
  | unsettledChangeNotice (h : HeadId)
  /-- TEST_ABORT_NOTICE (R45). -/
  | testAbortNotice (h : HeadId)
  /-- SEPARATION_FAULT_REPORT (R74). -/
  | separationFaultReport (h : HeadId)
  /-- GLITCH_REPORT (R74). -/
  | glitchReport (h : HeadId)
  /-- CLEAN_PASSAGE_REPORT (R74). -/
  | cleanPassageReport (h : HeadId)
  /-- TEST_PASSED_REPORT (R100). -/
  | testPassedReport (h : HeadId)
  /-- TEST_FAILED_REPORT (R101). -/
  | testFailedReport (h : HeadId)
  /-- PATTERN_START (R95). -/
  | patternStart
  /-- FOLLOW_WINDOW_CLOSE (R96). -/
  | followWindowClose
  /-- STEP_DEADLINE (R97). -/
  | stepDeadline
  /-- MID_STEP_SAMPLE (R98). -/
  | midStepSample
  /-- SAMPLE_REQUEST (R73), with the samples of the two systems. -/
  | sampleRequest (ampA ampB : Amp)
  /-- MID_SAMPLE_ANSWER (R98). -/
  | midSampleAnswer
  /-- EDGE_COPY (R96): the oldest copy in flight. -/
  | edgeCopy
  /-- RELEASE_TIME_END (R105). -/
  | releaseTimeEnd
  /-- SWEEP_RESET (R56): the fields of the command word written full width to the slot. -/
  | sweepReset (n : SlotId) (target token check : Byte)
  /-- PREPARED_RESET (R62). -/
  | preparedReset (n : SlotId) (target token check : Byte)
  /-- HEAD_RESTART (R82). -/
  | headRestart (n : SlotId) (target token check : Byte)
  /-- HEAD_TEST (R93). -/
  | headTest (n : SlotId) (target token check : Byte)
  /-- CANCEL (R146). -/
  | cancel (n : SlotId) (target token check : Byte)
  /-- PARTIAL_COMMAND (R142). -/
  | partialCommand (n : SlotId) (lanes : Lanes) (data : Word)
  /-- PARAMETER_WORD_WRITE (R139). -/
  | parameterWordWrite (n : SlotId) (lanes : Lanes) (data : Word)
  /-- CONSUMER_WRITE (R159), full width. -/
  | consumerWrite (value : Word)
  /-- TOPOLOGY_WRITE (R107). -/
  | topologyWrite (place : Place) (lanes : Lanes) (data : Word)
  /-- COMMIT (R113): a full-width write of action 1 and the check value to the commit word. -/
  | commit (check : BitVec 16)
  /-- KEPT_WRITE (R128). -/
  | keptWrite (addr : WordAddr) (lanes : Lanes) (data : Word)
  /-- PORT_GRANT (R133, R134): `arrival` is the processor access that arrives at the port with it, if any, and the
  claimant that is first where two meet at a free port. -/
  | portGrant (arrival : Arrival)
  /-- MEMORY_ACCESS_COMPLETE (R124). -/
  | memoryAccessComplete
  /-- RECORD_WRITE_START (R157). -/
  | recordWriteStart
  /-- JOURNAL_WORD_COMPLETE (R157). -/
  | journalWordComplete
  /-- HALT_PENDING_ENTRY (R163). -/
  | haltPendingEntry
  /-- PORST_ASSERT (R168). -/
  | porstAssert
  /-- PORST_RELEASE (R169): the straps, and the levels of the 32 systems A and the 32 systems B, bit h for
  head h, 1 damped, as sampled at the release. -/
  | porstRelease (aps : BitVec 4) (levelsA levelsB : BitVec 32)
  /-- CPURST_ASSERT (R135). -/
  | cpurstAssert
  /-- CPURST_RELEASE (R135). -/
  | cpurstRelease
  /-- COMMAND_NOT_A_KIND (R141): kind 6 to 255; also kind 0, which no row of the table carries (log entry 1). -/
  | commandNotAKind (n : SlotId) (kind target token check : Byte)
  deriving DecidableEq, Repr

end Sys2Proof
end

