-- ==== Sys2Proof/Decode.lean ====
section
/-! DEFINITION. The decoder over the rows of spec/opcode_table.json that give bits. No row of this block's
table gives any: its commands are events and bus accesses, not words in a stream (log entry 24). -/

namespace Sys2Proof

/-- The command that a word of the table spells: none, since no row of the table gives bits. -/
def decodeTableWord (_nbits _w : Nat) : Option Instr := none

end Sys2Proof
end

