-- ==== Sys2Proof/Config.lean ====
section
/-! DEFINITION. The figures the manual fixes for every part, and the free values, which it leaves open. -/

namespace Sys2Proof

/-- Reference clock periods in one millisecond (R165). -/
def Config.periodsPerMs : Nat := 8000

/-- Reference clock periods in one microsecond (R165). -/
def Config.periodsPerUs : Nat := 8

/-- Places of the journal queue (R154). -/
def Config.queuePlaces : Nat := 16

/-- Quiet checks in a row that complete a recovery (R84). -/
def Config.quietGoal : Nat := 250

/-- ms ticks of the release time (R104). -/
def Config.releaseTicks : Nat := 5

/-- The wait count at which the port goes to the journal word (R133). -/
def Config.waitLimit : Nat := 16

/-- FREE VALUE. What a byte of the static RAM that nothing has written through the part holds:
the manual does not give it (log entry 15). -/
opaque Config.ramByte : Nat → BitVec 8

/-- FREE VALUE. What the memory device made of a write that PORST cut (R168): the cut's number and the
byte's address (log entry 15). -/
opaque Config.cutByte : Nat → Nat → BitVec 8

end Sys2Proof
end

