-- ==== Sys2Proof/Machine/State.lean ====
section
/-! DEFINITION. The state of the part as plain data: every item the nine blocks own, the events in flight
between them, the port, the reset lines, the static RAM behind the memory side and the queue of commands. -/

namespace Sys2Proof.Machine

open Sys2Proof

/-! ### Names (codes in Flags.lean, from 11.3) -/

/-- Decoder phases (R4). -/
inductive Phase where
  | idle | arrA | ovrA | depA | arrB | ovrB | depB | unsettled | test | off
  deriving DecidableEq, Repr

/-- Traverse outcomes (R9). -/
inductive PassageOutcome where
  | counted | retreat | glitch | suspect
  deriving DecidableEq, Repr

/-- Section states (R29). -/
inductive SectionState where
  | unused | disturbed | sweepWait | sweeping | occupied | settling | clear
  deriving DecidableEq, Repr

/-- Causes of disturbance (R39). -/
inductive Cause where
  | powerUp | underflow | overflow | headFailed | countSuspect | testAbort | resetCancelled | internal
  deriving DecidableEq, Repr

/-- Health states (section 4.1). -/
inductive Health where
  | unused | healthy | marginal | degraded | failed | recovering
  deriving DecidableEq, Repr

/-- Classes of an analog sample (R69). -/
inductive AmpClass where
  | open_ | damped | normal | short | indeterminate
  deriving DecidableEq, Repr

/-- Triggers of a health change (R74, R77). -/
inductive Trigger where
  | separation | glitch | cleanPassage | scanOpen | scanShort | scanIndeterminate | scanDisagree
  | testFail | testPass | recovered | restartTimeout | restartCancelled
  deriving DecidableEq, Repr

/-- Generator states (R92). -/
inductive GenState where
  | idle | running | releasing
  deriving DecidableEq, Repr

/-- Outcomes of a test (section 5.4). -/
inductive TestOutcome where
  | pass | fail | abort | cancel | releaseAbort
  deriving DecidableEq, Repr

/-- The checks a test record names (R97 to R105). -/
inductive TestCheck where
  | missingResponse | midSample | noPassage | unexpectedEdge | notIdle
  deriving DecidableEq, Repr

/-- Slot states (R138). -/
inductive SlotState where
  | idle | active | waiting | done | failed | refused | cancelled
  deriving DecidableEq, Repr

/-- Result codes (R149). -/
inductive Result where
  | ok | slotBusy | notRunning | badCheck | badKind | badTarget | targetBusy | state | headNotReady | cause
  | moved | testBusy | sweepBroken | timeout | testFail | testAbort | nothingToCancel | cancelled | halted
  deriving DecidableEq, Repr

/-- Violation kinds (R152). -/
inductive ViolationKind where
  | statusWrite | topologyWrite | ringWrite | partialCommand | consumerRange
  deriving DecidableEq, Repr

/-- Modes (R116). -/
inductive Mode where
  | unconfigured | running | halted
  deriving DecidableEq, Repr

/-- Commit result codes (R113, R115). -/
inductive CommitCode where
  | noCommit | accepted | checkMismatch | badParameter | ringPlacement | badHeadEntry | sectionWithoutHead
  | tooManyHeads | badSectionEntry | noHeads
  deriving DecidableEq, Repr

/-- The four words of a record, named as R157 names them. -/
inductive RecordWordIx where
  | w0 | w1 | w2 | w3
  deriving DecidableEq, Repr

/-! ### HDEC -/

/-- What HDEC holds for one sensing system (R1, R2). -/
structure Sensor where
  damped : Bool
  edgeTime : Word
  edgeAge : Nat
  deriving DecidableEq, Repr

/-- What HDEC holds for one head (section 1.2). -/
structure HeadDecoder where
  phase : Phase
  sensorA : Sensor
  sensorB : Sensor
  suspect : Bool
  dwellStart : Option Word
  standing : Bool
  shadowPhase : Option Phase
  shadowSuspect : Bool
  deriving DecidableEq, Repr

/-! ### SCNT -/

/-- One section record (R27). -/
structure SectionRec where
  state : SectionState
  count : Nat
  cause : Option Cause
  moved : Bool
  slot : Option SlotId
  remaining : Nat
  changes : BitVec 8
  bounding : List (HeadId × Side)
  deriving DecidableEq, Repr

/-! ### SUPV -/

/-- What SUPV holds for one head (section 4.1). -/
structure HeadHealth where
  health : Health
  score : Nat
  classA : Option AmpClass
  classB : Option AmpClass
  quiet : Nat
  restartCount : Nat
  refTimes : Option (Word × Word)
  restartSlot : Option SlotId
  deriving DecidableEq, Repr

/-! ### TGEN -/

/-- The pattern generator (R92). `followOpen` is the follow window of R96; `tickDue` says that an ms tick has
been given which TGEN has still to take and which has an effect on it; `serial` numbers the tests, so that
a sample answer names the test that asked for it (R98). -/
structure Generator where
  state : GenState
  target : Option HeadId
  slot : Option SlotId
  direction : Option Direction
  step : Nat
  stepStart : Option Word
  stepDeadline : Option Word
  expectA : Bool
  expectB : Bool
  response : Bool
  followOpen : Bool
  outcomes : List (PassageOutcome × Direction)
  shadowSeparation : Bool
  releaseLeft : Option Nat
  releaseA : Bool
  releaseB : Bool
  reportPending : Bool
  tickDue : Bool
  serial : Nat
  deriving DecidableEq, Repr

/-! ### REQE -/

/-- One slot record (R138); kind 0 is none. -/
structure Slot where
  state : SlotState
  kind : Byte
  target : Byte
  token : Byte
  result : Option Result
  param : Word
  deriving DecidableEq, Repr

/-! ### JRNL -/

/-- The detail of a journal record, by kind (R152). -/
inductive Detail where
  | start (check : BitVec 16) (code : Nat)
  | halt (sum : BitVec 16) (dropped : Nat)
  | section_ (sec : SectionId) (old new : SectionState) (count : Nat) (cause : Option Cause)
  | head (h : HeadId) (old new : Health) (score : Nat) (trigger : Trigger) (system : Option System)
  | standing (h : HeadId) (ends : Bool)
  | passage (h : HeadId) (d : Direction) (outcome : PassageOutcome)
  | request (n : SlotId) (kind target token : Byte) (result : Result)
  | test (h : HeadId) (d : Direction) (outcome : TestOutcome) (step : Option Nat) (check : Option TestCheck)
  | violation (addr : Addr) (kind : ViolationKind)
  | gap (dropped : Nat)
  deriving DecidableEq, Repr

/-- A record in the queue (R152, R154). -/
structure JRecord where
  detail : Detail
  seq : BitVec 16
  time : Word
  deriving DecidableEq, Repr

/-- How far JRNL has got after the mode became HALTED (R163). -/
inductive HaltState where
  | none
  | pending (sum : BitVec 16) (dropped : Nat)
  | stopped
  deriving DecidableEq, Repr

/-- The journal writer (chapter 9, introduction table). `writing` is the word of the oldest queued record now
offered to the port or in service there. -/
structure Journal where
  active : Bool
  queue : List JRecord
  dropped : Nat
  nextSeq : BitVec 16
  producer : Nat
  consumer : Nat
  lastSeq : BitVec 16
  writing : Option RecordWordIx
  halt : HaltState
  deriving DecidableEq, Repr

/-! ### TOPO -/

/-- A committed head entry (R110); `none` is NONE. -/
structure HeadEntry where
  sideA : Option SectionId
  sideB : Option SectionId
  deriving DecidableEq, Repr

/-- A committed section entry (R111). -/
structure SectionEntry where
  inUse : Bool
  prepared : Bool
  settle : Nat
  deriving DecidableEq, Repr

/-- The parameters the blocks take at an accepted commit (R109 to R111). -/
structure Params where
  minSep : Nat
  minPulse : Nat
  dwellLimit : Nat
  restartLimit : Nat
  stepTime : Nat
  openMax : Nat
  dampedLow : Nat
  dampedHigh : Nat
  normalLow : Nat
  normalHigh : Nat
  shortMin : Nat
  ringBase : Addr
  ringCode : Nat
  passageRecords : Bool
  heads : Vector HeadEntry 32
  sections : Vector SectionEntry 24
  deriving DecidableEq, Repr

/-- The ring region PATH guards (R131): first byte address and size in bytes. -/
structure RingRegion where
  base : Nat
  size : Nat
  deriving DecidableEq, Repr

/-- The topology store (chapter 6). The shadow lists the places that are not zero, by rising place. -/
structure Topology where
  shadow : List (Nat × Word)
  mode : Mode
  check : BitVec 16
  result : CommitCode
  entry : Nat
  params : Params
  ring : Option RingRegion
  deriving DecidableEq, Repr

/-! ### TBASE and the ticks given -/

/-- The counters (R165). -/
structure Timebase where
  us : Word
  ms : Word
  period : Nat
  deriving DecidableEq, Repr

/-- Ticks given and not yet taken, oldest first, each by its ms counter value (R166), and the head at which
SUPV's pass of the oldest supervision tick stands (R70). -/
structure Ticks where
  supv : List Word
  scanNext : Nat
  scnt : List Word
  slowSupv : List Word
  slowTopo : List Word
  deriving DecidableEq, Repr

/-! ### Events in flight -/

/-- What SCNT is sent (R32). -/
inductive ToScnt where
  | passage (h : HeadId) (d : Direction)
  | suspectEnd (h : HeadId)
  | movement (h : HeadId)
  | unsettledChange (h : HeadId)
  | testAbort (h : HeadId)
  deriving DecidableEq, Repr

/-- What SUPV is sent (R75). -/
inductive ToSupv where
  | separationFault (h : HeadId)
  | glitch (h : HeadId)
  | cleanPassage (h : HeadId)
  | testPassed (h : HeadId)
  | testFailed (h : HeadId)
  deriving DecidableEq, Repr

/-- A copy of an edge (R20, R22). -/
structure EdgeCopy where
  h : HeadId
  y : System
  d : EdgeDir
  deriving DecidableEq, Repr

/-- A request for the mid-step sample, by the number of the test that asks (R98). -/
structure SampleAsk where
  h : HeadId
  serial : Nat
  deriving DecidableEq, Repr

/-- SUPV's answer to it (R73). -/
structure SampleAnswer where
  classA : AmpClass
  classB : AmpClass
  serial : Nat
  deriving DecidableEq, Repr

/-- The events sent and not yet taken, oldest first. `stale` holds the reports to SUPV that were sent before their head
failed: SUPV takes each of them and discards it (R74). -/
structure InFlight where
  scnt : List ToScnt
  supv : List ToSupv
  stale : List ToSupv
  recovered : List HeadId
  copies : List EdgeCopy
  asks : List SampleAsk
  answers : List SampleAnswer
  deriving DecidableEq, Repr

/-! ### The blocks together -/

/-- Everything the blocks other than PATH own. -/
structure Part where
  hdec : Vector HeadDecoder 32
  scnt : Vector SectionRec 24
  supv : Vector HeadHealth 32
  gen : Generator
  slots : Vector Slot 8
  jrnl : Journal
  topo : Topology
  tbase : Timebase
  ticks : Ticks
  sent : InFlight
  deriving DecidableEq, Repr

/-! ### PATH -/

/-- The processor access in flight (R124, R135). -/
structure Flight where
  access : Access
  holds : Bool
  dropped : Bool
  deriving DecidableEq, Repr

/-- The journal word that holds the port (R132). -/
structure JournalWord where
  addr : Addr
  data : Word
  deriving DecidableEq, Repr

/-- A completion given at the processor side: the word address, read or write, and for a read the lanes that are
driven with their bytes: all four by PATH (R126), those the access enabled by memory (R125). -/
structure Completion where
  addr : WordAddr
  write : Bool
  bytes : List (Nat × Byte)
  deriving DecidableEq, Repr

/-- PATH (chapter 7), with the two reset lines. `waiting` is an access on the processor-side bus that PATH
has not accepted; the ring region stands in the topology record. `accessWaited` and `wordWaited` say which
claimants waited when the port last fell free, so that the arbiter finds them; a claimant that came later met the
port free (R133, R134; log entry 34). -/
structure Path where
  aps : BitVec 4
  waiting : Option Access
  flight : Option Flight
  waitCount : Nat
  accessWaited : Bool
  wordWaited : Bool
  jword : Option JournalWord
  completed : Option Completion
  porst : Bool
  cpurst : Bool
  deriving DecidableEq, Repr

/-- The state of the machine: the blocks, PATH, the static RAM behind the memory side, the number of words
left undefined by cut writes (it numbers the free values), and the commands that wait. -/
structure State where
  part : Part
  path : Path
  mem : List Host.Cell
  cuts : Nat
  pending : List Instr
  deriving DecidableEq, Repr

/-- Reasons to stop with a fault: none. The bus carries no error indication and every access completes
(R125), and the manual gives every command an effect, so nothing raises a fault (safe). -/
inductive Fault where
  deriving DecidableEq, Repr

/-- Reasons to refuse. -/
inductive Refusal where
  /-- Raised by the dispatch alone, for a command without a meaning (safe); no arm raises it. -/
  | notModelled (mnemonic : String)
  deriving DecidableEq, Repr

/-! ### Power-on values -/

/-- A sensing system at the release of PORST, at the level sampled (R23). -/
def Sensor.powerOn (damped : Bool) : Sensor := { damped := damped, edgeTime := 0#32, edgeAge := 15 }

/-- A head at the release of PORST (R23). -/
def HeadDecoder.powerOn (a b : Bool) : HeadDecoder :=
  { phase := .off, sensorA := Sensor.powerOn a, sensorB := Sensor.powerOn b, suspect := false,
    dwellStart := none, standing := false, shadowPhase := none, shadowSuspect := false }

/-- A section at the release of PORST (R50). -/
def SectionRec.powerOn : SectionRec :=
  { state := .unused, count := 0, cause := none, moved := false, slot := none, remaining := 0,
    changes := 0#8, bounding := [] }

/-- A head's supervision at the release of PORST (R89). -/
def HeadHealth.powerOn : HeadHealth :=
  { health := .unused, score := 0, classA := none, classB := none, quiet := 0, restartCount := 0,
    refTimes := none, restartSlot := none }

/-- The generator at the release of PORST (R106); the test number goes on, it is the model's own. -/
def Generator.powerOn (serial : Nat) : Generator :=
  { state := .idle, target := none, slot := none, direction := none, step := 0, stepStart := none,
    stepDeadline := none, expectA := false, expectB := false, response := false, followOpen := false,
    outcomes := [], shadowSeparation := false, releaseLeft := none, releaseA := false, releaseB := false,
    reportPending := false, tickDue := false, serial := serial }

/-- A slot at the release of PORST (R138). -/
def Slot.powerOn : Slot :=
  { state := .idle, kind := 0#8, target := 0#8, token := 0#8, result := none, param := 0#32 }

/-- The journal writer at the release of PORST (R161). -/
def Journal.powerOn : Journal :=
  { active := false, queue := [], dropped := 0, nextSeq := 0#16, producer := 0, consumer := 0,
    lastSeq := 0#16, writing := none, halt := .none }

/-- The parameters before any commit: the manual gives none and no block takes any (log entry 17). -/
def Params.uncommitted : Params :=
  { minSep := 0, minPulse := 0, dwellLimit := 0, restartLimit := 0, stepTime := 0, openMax := 0,
    dampedLow := 0, dampedHigh := 0, normalLow := 0, normalHigh := 0, shortMin := 0, ringBase := 0#24,
    ringCode := 0, passageRecords := false,
    heads := Vector.replicate 32 { sideA := none, sideB := none },
    sections := Vector.replicate 24 { inUse := false, prepared := false, settle := 0 } }

/-- The topology store at the release of PORST (R121, R136). -/
def Topology.powerOn : Topology :=
  { shadow := [], mode := .unconfigured, check := 0#16, result := .noCommit, entry := 0,
    params := Params.uncommitted, ring := none }

/-- The timebase at the release of PORST (R165). -/
def Timebase.powerOn : Timebase := { us := 0#32, ms := 0#32, period := 0 }

/-- No tick has been given (R166). -/
def Ticks.none : Ticks := { supv := [], scanNext := 0, scnt := [], slowSupv := [], slowTopo := [] }

/-- No event is in flight (R168: no event, report or record follows). -/
def InFlight.none : InFlight :=
  { scnt := [], supv := [], stale := [], recovered := [], copies := [], asks := [], answers := [] }

/-- The blocks at the release of PORST (R169), with the levels sampled then. -/
def Part.powerOn (levelsA levelsB : BitVec 32) (serial : Nat) : Part :=
  { hdec := Vector.ofFn fun h => HeadDecoder.powerOn (levelsA.getLsbD h.val) (levelsB.getLsbD h.val),
    scnt := Vector.replicate 24 SectionRec.powerOn,
    supv := Vector.replicate 32 HeadHealth.powerOn,
    gen := Generator.powerOn serial,
    slots := Vector.replicate 8 Slot.powerOn,
    jrnl := Journal.powerOn,
    topo := Topology.powerOn,
    tbase := Timebase.powerOn,
    ticks := Ticks.none,
    sent := InFlight.none }

/-- PATH at the release of PORST (R122, R136). -/
def Path.powerOn (aps : BitVec 4) (cpurst : Bool) : Path :=
  { aps := aps, waiting := none, flight := none, waitCount := 0, accessWaited := false, wordWaited := false,
    jword := none, completed := none, porst := false, cpurst := cpurst }

/-- The machine right after the release of PORST (R169), with straps 0, every system undamped, CPURST
released (log entry 16) and RAM that nothing has written (log entry 15). -/
def State.reset : State :=
  { part := Part.powerOn 0#32 0#32 0, path := Path.powerOn 0#4 false, mem := [], cuts := 0, pending := [] }

end Sys2Proof.Machine
end

