-- ==== Sys2Proof/Machine/Operands.lean ====
section
/-! DEFINITION. The operands: byte lanes, the fields of the words that software writes (R170), the places of
those words (11.1), the classes of an access (R123). -/

namespace Sys2Proof.Machine

open Sys2Proof

/-! ### Byte lanes -/

/-- The byte a word carries on lane i (chapter 11, opening). -/
def laneByte (w : Word) (i : Nat) : Byte := w.extractLsb' (8 * i) 8

/-- The byte of lane i after a write of the enabled lanes (R107, R139). -/
def mergeLane (old new : Word) (l : Lanes) (i : Nat) : Byte :=
  if l.getLsbD i then laneByte new i else laneByte old i

/-- A word after a write of the enabled lanes; the other lanes keep their bytes (R107, R139). -/
def mergeLanes (old new : Word) (l : Lanes) : Word :=
  mergeLane old new l 3 ++ mergeLane old new l 2 ++ mergeLane old new l 1 ++ mergeLane old new l 0

/-- The lanes an access enables, lowest first. -/
def lanesOf (l : Lanes) : List Nat := [0, 1, 2, 3].filter fun i => l.getLsbD i

/-- An unsigned field of `len` bits from bit `lo` (chapter 11, opening). -/
def field (w : Word) (lo len : Nat) : Nat := (w.extractLsb' lo len).toNat

/-! ### Words that software writes (R170) -/

/-- The command word: kind, target, token, check from the least significant byte up. -/
def commandWord (kind target token check : Byte) : Word := check ++ token ++ target ++ kind

/-- Field kind of a command word. -/
def cmdKind (w : Word) : Byte := w.extractLsb' 0 8

/-- Field target of a command word. -/
def cmdTarget (w : Word) : Byte := w.extractLsb' 8 8

/-- Field token of a command word. -/
def cmdToken (w : Word) : Byte := w.extractLsb' 16 8

/-- Field check of a command word. -/
def cmdCheck (w : Word) : Byte := w.extractLsb' 24 8

/-- The commit word that commits: action 1 and the check value. -/
def commitWord (check : BitVec 16) : Word := check ++ 1#16

/-- The direction a parameter word carries in bit 0. -/
def paramDirection (w : Word) : Direction := if w.getLsbD 0 then .bToA else .aToB

/-- A side field of a head entry: a section number, or NONE (R110). -/
def sideOfField (v : Nat) : Option SectionId := if h : v < 24 then some ⟨v, h⟩ else none

/-- The head entry a word of the topology window holds (R110). -/
def headEntryOf (w : Word) : HeadEntry :=
  { sideA := sideOfField (field w 0 8), sideB := sideOfField (field w 8 8) }

/-- The section entry a word of the topology window holds (R111). -/
def sectionEntryOf (w : Word) : SectionEntry :=
  { inUse := w.getLsbD 0, prepared := w.getLsbD 1, settle := field w 8 8 }

/-- A target byte as a section. -/
def targetSection (t : Byte) : Option SectionId := if h : t.toNat < 24 then some ⟨t.toNat, h⟩ else none

/-- A target byte as a head. -/
def targetHead (t : Byte) : Option HeadId := if h : t.toNat < 32 then some ⟨t.toNat, h⟩ else none

/-- A target byte as a slot. -/
def targetSlot (t : Byte) : Option SlotId := if h : t.toNat < 8 then some ⟨t.toNat, h⟩ else none

/-! ### Places (11.1) -/

/-- The first byte address of the aperture (R122). -/
def apertureBase (aps : BitVec 4) : Nat := (0xF0 + aps.toNat) * 0x10000

/-- The byte address of the lowest byte of a word. -/
def byteAddr (a : WordAddr) : Nat := 4 * a.toNat

/-- The word address of the word at an aperture offset. -/
def apertureWord (aps : BitVec 4) (offset : Nat) : WordAddr := BitVec.ofNat 22 ((apertureBase aps + offset) / 4)

/-- The offset of a slot's parameter word (R139). -/
def paramOffset (n : SlotId) : Nat := 0x1000 + 8 * n.val

/-- The offset of a slot's command word (R140). -/
def commandOffset (n : SlotId) : Nat := 0x1004 + 8 * n.val

/-- The offset of the consumer word (R159). -/
def consumerOffset : Nat := 0x1100

/-- The offset of a place of the topology window (R107). -/
def topologyOffset (i : Place) : Nat := 0x2000 + 4 * i.val

/-- The place of the commit word (R107). -/
def commitPlace : Place := 2047

/-! ### Classes (R123) -/

/-- The five classes of an access, the window classes with the offset of the word. -/
inductive AccessClass where
  | status (offset : Nat)
  | request (offset : Nat)
  | topology (place : Place)
  | ring
  | other
  deriving DecidableEq, Repr

/-- A word in the aperture by its offset: the window it lies in. -/
def windowClass (offset : Nat) : AccessClass :=
  if offset < 0x1000 then .status offset
  else if offset < 0x2000 then .request offset
  else if h : offset < 0x4000 ∧ 0x2000 ≤ offset then .topology ⟨(offset - 0x2000) / 4, by omega⟩
  else .other

/-- Whether a byte address lies in the ring region, when one is placed (R131). -/
def inRing (ring : Option RingRegion) (b : Nat) : Bool :=
  match ring with
  | none => false
  | some r => decide (r.base ≤ b) && decide (b < r.base + r.size)

/-- The class of an access, by its word address and the ring region alone; before a commit no ring region is
placed (R123, R131). -/
def classify (aps : BitVec 4) (ring : Option RingRegion) (a : WordAddr) : AccessClass :=
  let b := byteAddr a
  let base := apertureBase aps
  if base ≤ b ∧ b < base + 0x10000 then windowClass (b - base)
  else if inRing ring b then .ring
  else .other

/-- What a word of the request window hands to a block (R129). -/
inductive RequestWord where
  | param (n : SlotId)
  | command (n : SlotId)
  | consumer
  | plain
  deriving DecidableEq, Repr

/-- The meaning of an offset of the request window: slot n's words at 0x1000 + 8n and 0x1004 + 8n, the
consumer word, plain memory otherwise (R129). -/
def requestWordAt (offset : Nat) : RequestWord :=
  if h : 0x1000 ≤ offset ∧ offset < 0x1040 then
    let n : SlotId := ⟨(offset - 0x1000) / 8, by omega⟩
    if (offset - 0x1000) % 8 = 0 then .param n
    else if (offset - 0x1000) % 8 = 4 then .command n
    else .plain
  else if offset = consumerOffset then .consumer
  else .plain

end Sys2Proof.Machine
end

