-- ==== Sys2Proof/Machine/Flags.lean ====
section
/-! DEFINITION. What the part shows: the numeric codes (11.3), the status-window words (R126, R171), the words
of a journal record (R171), the ATTN line (R160) and the test drive outputs (R92). -/

namespace Sys2Proof.Machine

open Sys2Proof

/-! ### Numeric codes (11.3) -/

def Mode.code : Mode → Nat
  | .unconfigured => 0 | .running => 1 | .halted => 2

def CommitCode.code : CommitCode → Nat
  | .noCommit => 0 | .accepted => 1 | .checkMismatch => 2 | .badParameter => 3 | .ringPlacement => 4
  | .badHeadEntry => 5 | .sectionWithoutHead => 6 | .tooManyHeads => 7 | .badSectionEntry => 8 | .noHeads => 9

def SectionState.code : SectionState → Nat
  | .unused => 0 | .disturbed => 1 | .sweepWait => 2 | .sweeping => 3 | .occupied => 4 | .settling => 5
  | .clear => 6

def Cause.code : Cause → Nat
  | .powerUp => 1 | .underflow => 2 | .overflow => 3 | .headFailed => 4 | .countSuspect => 5 | .testAbort => 6
  | .resetCancelled => 7 | .internal => 8

/-- An absent cause is shown as 0 (R171). -/
def causeCode : Option Cause → Nat
  | none => 0
  | some c => c.code

def Phase.code : Phase → Nat
  | .idle => 0 | .arrA => 1 | .ovrA => 2 | .depA => 3 | .arrB => 4 | .ovrB => 5 | .depB => 6 | .unsettled => 7
  | .test => 8 | .off => 9

def Health.code : Health → Nat
  | .unused => 0 | .healthy => 1 | .marginal => 2 | .degraded => 3 | .failed => 4 | .recovering => 5

def SlotState.code : SlotState → Nat
  | .idle => 0 | .active => 1 | .waiting => 2 | .done => 3 | .failed => 4 | .refused => 5 | .cancelled => 6

def Result.code : Result → Nat
  | .ok => 1 | .slotBusy => 2 | .notRunning => 3 | .badCheck => 4 | .badKind => 5 | .badTarget => 6
  | .targetBusy => 7 | .state => 8 | .headNotReady => 9 | .cause => 10 | .moved => 11 | .testBusy => 12
  | .sweepBroken => 13 | .timeout => 14 | .testFail => 15 | .testAbort => 16 | .nothingToCancel => 17
  | .cancelled => 18 | .halted => 19

/-- An absent result is shown as 0 (R171). -/
def resultCode : Option Result → Nat
  | none => 0
  | some r => r.code

def Detail.kindCode : Detail → Nat
  | .start _ _ => 1 | .halt _ _ => 2 | .section_ _ _ _ _ _ => 3 | .head _ _ _ _ _ _ => 4 | .standing _ _ => 5
  | .passage _ _ _ => 6 | .request _ _ _ _ _ => 7 | .test _ _ _ _ _ => 8 | .violation _ _ => 9 | .gap _ => 10

def ViolationKind.code : ViolationKind → Nat
  | .statusWrite => 1 | .topologyWrite => 2 | .ringWrite => 3 | .partialCommand => 4 | .consumerRange => 5

def Trigger.code : Trigger → Nat
  | .separation => 1 | .glitch => 2 | .cleanPassage => 3 | .scanOpen => 4 | .scanShort => 5
  | .scanIndeterminate => 6 | .scanDisagree => 7 | .testFail => 8 | .testPass => 9 | .recovered => 10
  | .restartTimeout => 11 | .restartCancelled => 12

def systemCode : Option System → Nat
  | none => 0 | some .sysA => 1 | some .sysB => 2

def directionBit : Direction → BitVec 1
  | .aToB => 0#1 | .bToA => 1#1

def PassageOutcome.code : PassageOutcome → Nat
  | .counted => 0 | .retreat => 1 | .glitch => 2 | .suspect => 3

def TestOutcome.code : TestOutcome → Nat
  | .pass => 0 | .fail => 1 | .abort => 2 | .cancel => 3 | .releaseAbort => 4

def TestCheck.code : TestCheck → Nat
  | .missingResponse => 1 | .midSample => 2 | .noPassage => 3 | .unexpectedEdge => 4 | .notIdle => 5

/-- An absent check is shown as 0 (R171). -/
def checkCode : Option TestCheck → Nat
  | none => 0
  | some c => c.code

/-! ### Table words (11.2), written from the most significant field down -/

/-- The section word (R53). -/
def sectionWord (x : SectionRec) : Word :=
  x.changes ++ 0#2 ++ BitVec.ofNat 10 x.count ++ BitVec.ofBool x.slot.isSome
    ++ BitVec.ofNat 3 ((x.slot.map Fin.val).getD 0) ++ BitVec.ofBool x.moved
    ++ BitVec.ofNat 4 (causeCode x.cause) ++ BitVec.ofNat 3 x.state.code

/-- The head word (R26). -/
def headWord (x : HeadDecoder) (v : HeadHealth) : Word :=
  0#8 ++ BitVec.ofNat 8 v.score ++ 0#5 ++ BitVec.ofNat 3 v.health.code ++ BitVec.ofBool x.standing
    ++ BitVec.ofBool x.suspect ++ BitVec.ofBool x.sensorB.damped ++ BitVec.ofBool x.sensorA.damped
    ++ BitVec.ofNat 4 x.phase.code

/-- The slot result word (R150). -/
def slotWord (x : Slot) : Word :=
  x.token ++ x.target ++ x.kind ++ BitVec.ofNat 5 (resultCode x.result) ++ BitVec.ofNat 3 x.state.code

/-- The word at an offset of the status window (R126, R127); every offset without a meaning reads 0. -/
def statusWord (p : Part) (offset : Nat) : Word :=
  if offset = 0x000 then BitVec.ofNat 32 p.topo.mode.code
  else if offset = 0x004 then 0#16 ++ BitVec.ofNat 8 p.topo.entry ++ BitVec.ofNat 8 p.topo.result.code
  else if offset = 0x008 then p.tbase.ms
  else if offset = 0x00C then
    0#6 ++ BitVec.ofNat 10 p.jrnl.consumer ++ 0#6 ++ BitVec.ofNat 10 p.jrnl.producer
  else if offset = 0x010 then 0#16 ++ p.jrnl.lastSeq
  else if offset = 0x014 then 0#16 ++ p.topo.check
  else if h : 0x100 ≤ offset ∧ offset < 0x160 ∧ offset % 4 = 0 then
    sectionWord (p.scnt[(offset - 0x100) / 4]'(by omega))
  else if h : 0x200 ≤ offset ∧ offset < 0x280 ∧ offset % 4 = 0 then
    headWord (p.hdec[(offset - 0x200) / 4]'(by omega)) (p.supv[(offset - 0x200) / 4]'(by omega))
  else if h : 0x300 ≤ offset ∧ offset < 0x320 ∧ offset % 4 = 0 then
    slotWord (p.slots[(offset - 0x300) / 4]'(by omega))
  else 0#32

/-! ### Journal records (11.2) -/

/-- Word w2 of a record's detail. -/
def Detail.word2 : Detail → Word
  | .start check _ => 0#16 ++ check
  | .halt sum _ => 0#16 ++ sum
  | .section_ sec old new _ cause =>
    0#4 ++ BitVec.ofNat 4 (causeCode cause) ++ 0#5 ++ BitVec.ofNat 3 new.code ++ 0#5
      ++ BitVec.ofNat 3 old.code ++ BitVec.ofNat 8 sec.val
  | .head h old new _ trigger _ =>
    0#4 ++ BitVec.ofNat 4 trigger.code ++ 0#5 ++ BitVec.ofNat 3 new.code ++ 0#5
      ++ BitVec.ofNat 3 old.code ++ BitVec.ofNat 8 h.val
  | .standing h _ => 0#24 ++ BitVec.ofNat 8 h.val
  | .passage h d o => 0#14 ++ BitVec.ofNat 2 o.code ++ 0#7 ++ directionBit d ++ BitVec.ofNat 8 h.val
  | .request n _ _ _ r => 0#19 ++ BitVec.ofNat 5 r.code ++ 0#5 ++ BitVec.ofNat 3 n.val
  | .test h d o step _ =>
    0#5 ++ BitVec.ofNat 3 (step.getD 0) ++ 0#5 ++ BitVec.ofNat 3 o.code ++ 0#7 ++ directionBit d
      ++ BitVec.ofNat 8 h.val
  | .violation addr _ => 0#8 ++ addr
  | .gap dropped => 0#16 ++ BitVec.ofNat 16 dropped

/-- Word w3 of a record's detail. -/
def Detail.word3 : Detail → Word
  | .start _ k => 0#28 ++ BitVec.ofNat 4 k
  | .halt _ dropped => 0#16 ++ BitVec.ofNat 16 dropped
  | .section_ _ _ _ count _ => 0#22 ++ BitVec.ofNat 10 count
  | .head _ _ _ score _ sys => 0#22 ++ BitVec.ofNat 2 (systemCode sys) ++ BitVec.ofNat 8 score
  | .standing _ ends => 0#31 ++ BitVec.ofBool ends
  | .passage _ _ _ => 0#32
  | .request _ kind target token _ => 0#8 ++ token ++ target ++ kind
  | .test _ _ _ _ check => 0#29 ++ BitVec.ofNat 3 (checkCode check)
  | .violation _ kind => 0#29 ++ BitVec.ofNat 3 kind.code
  | .gap _ => 0#32

/-- The four words of a record as JRNL writes them (R157, R171). -/
def JRecord.word (r : JRecord) : RecordWordIx → Word
  | .w0 => 0#8 ++ BitVec.ofNat 8 r.detail.kindCode ++ r.seq
  | .w1 => r.time
  | .w2 => r.detail.word2
  | .w3 => r.detail.word3

/-- The offset of a word of a record from its ring place (R157). -/
def RecordWordIx.offset : RecordWordIx → Nat
  | .w0 => 0 | .w1 => 4 | .w2 => 8 | .w3 => 12

/-! ### Lines -/

/-- ATTN (R160); deasserted while PORST is asserted (R161). -/
def State.attn (s : State) : Bool :=
  !s.path.porst && (decide (s.part.topo.mode = .halted) ||
    (s.part.jrnl.active && decide (s.part.jrnl.producer ≠ s.part.jrnl.consumer)))

/-- The test drive output of a system of a head: damped when the generator is RUNNING, targets the head and
expects the system damped, undamped otherwise (R92). -/
def Generator.drive (g : Generator) (h : HeadId) (y : System) : Bool :=
  decide (g.state = .running) && decide (g.target = some h) &&
    (match y with
     | .sysA => g.expectA
     | .sysB => g.expectB)

end Sys2Proof.Machine
end

