-- ==== Sys2Proof/Machine/Ops.lean ====
section
/-! DEFINITION. The named operations the blocks share: the sparse store under the RAM and the shadow, the
updates of one record of a table, the events in flight, taking a journal record (R153 to R157), setting a
slot final (R147 to R149), changing a section (R30, R31, R39, R43), putting a head in OFF (R17). -/

namespace Sys2Proof.Machine

open Sys2Proof

/-! ### Sparse stores: entries by rising key -/

/-- What is listed at a key. -/
def cellGet {β : Type} : List (Nat × β) → Nat → Option β
  | [], _ => none
  | (a, v) :: t, k => if a = k then some v else cellGet t k

/-- List a value at a key, replacing what was listed there. -/
def cellPut {β : Type} : List (Nat × β) → Nat → β → List (Nat × β)
  | [], k, v => [(k, v)]
  | (a, w) :: t, k, v =>
    if k < a then (k, v) :: (a, w) :: t
    else if k = a then (k, v) :: t
    else (a, w) :: cellPut t k v

/-- List nothing at a key. -/
def cellDrop {β : Type} : List (Nat × β) → Nat → List (Nat × β)
  | [], _ => []
  | (a, w) :: t, k => if a = k then t else (a, w) :: cellDrop t k

/-- The canonical form's order: keys strictly rising. -/
abbrev CellsRising {β : Type} (l : List (Nat × β)) : Prop := l.Pairwise fun x y => x.1 < y.1

/-! ### The static RAM -/

/-- The RAM's canonical form: addresses strictly rising within 24 bits; an unlisted address reads as no
value, so no entry can equal it. -/
abbrev Memory.wf (m : List Host.Cell) : Prop := CellsRising m ∧ ∀ c ∈ m, c.1 < 2 ^ 24

/-- The byte the part has written at an address, if any. -/
def Memory.byte? (m : List Host.Cell) (a : Nat) : Option Byte := cellGet m a

/-- The byte memory gives at an address: the one listed, or the free value (log entry 15). -/
def Memory.byte (m : List Host.Cell) (a : Nat) : Byte := (Memory.byte? m a).getD (Config.ramByte a)

/-- Write one byte; an address wraps to 24 bits. -/
def Memory.put (m : List Host.Cell) (a : Nat) (v : Byte) : List Host.Cell := cellPut m (a % 2 ^ 24) v

/-- Write the enabled lanes of the word at a byte address, `f` giving the byte of a lane. Lane i stands at the word's
address plus i: the manual ties the lanes to bits (chapter 11, opening) and names a word by its lowest byte, but says
of no lane which byte address it has, so that is the model's choice (log entry 36). -/
def Memory.writeLanes (m : List Host.Cell) (base : Nat) (lanes : List Nat) (f : Nat → Byte) : List Host.Cell :=
  lanes.foldl (fun m i => Memory.put m (base + i) (f i)) m

/-- A write access reaches memory: the same word, lanes and data (R125). -/
def Memory.writeAccess (m : List Host.Cell) (a : Access) : List Host.Cell :=
  Memory.writeLanes m (byteAddr a.addr) (lanesOf a.lanes) (laneByte a.data)

/-- A journal word reaches memory, full width (R132, R157). -/
def Memory.writeJournal (m : List Host.Cell) (w : JournalWord) : List Host.Cell :=
  Memory.writeLanes m w.addr.toNat [0, 1, 2, 3] (laneByte w.data)

/-- A cut write leaves its bytes undefined (R168): free values numbered by the cut. -/
def Memory.cutLanes (m : List Host.Cell) (n base : Nat) (lanes : List Nat) : List Host.Cell :=
  Memory.writeLanes m base lanes fun i => Config.cutByte n (base + i)

/-- What memory returns on the enabled lanes of a read (R125); lane i is the byte at the word's address plus i, the
model's choice (log entry 36). -/
def Memory.readLanes (m : List Host.Cell) (a : Access) : List (Nat × Byte) :=
  (lanesOf a.lanes).map fun i => (i, Memory.byte m (byteAddr a.addr + i))

/-! ### The topology shadow -/

/-- The shadow's canonical form: places strictly rising below 2048, no listed place zero (an unlisted place
reads zero, R107). -/
abbrev Shadow.wf (m : List (Nat × Word)) : Prop := CellsRising m ∧ ∀ c ∈ m, c.1 < 2048 ∧ c.2 ≠ 0#32

/-- The word a place of the shadow holds. -/
def Shadow.word (m : List (Nat × Word)) (i : Nat) : Word := (cellGet m i).getD 0#32

/-- Set a place of the shadow. -/
def Shadow.set (m : List (Nat × Word)) (i : Place) (v : Word) : List (Nat × Word) :=
  if v = 0#32 then cellDrop m i.val else cellPut m i.val v

/-- A write of the enabled lanes merges into the place (R107). -/
def Shadow.merge (m : List (Nat × Word)) (i : Place) (l : Lanes) (v : Word) : List (Nat × Word) :=
  Shadow.set m i (mergeLanes (Shadow.word m i.val) v l)

/-- The two halves of a word, added (R108). -/
def halfSum (w : Word) : Nat := field w 16 16 + field w 0 16

/-- The shadow sum: both halves of every place but the commit word's, mod 65536; a place not listed adds 0
(R108). -/
def Shadow.sum (m : List (Nat × Word)) : BitVec 16 :=
  BitVec.ofNat 16 (((m.filter fun c => decide (c.1 < 2047)).map fun c => halfSum c.2).sum)

/-! ### One record of a table -/

def Part.setHdec (p : Part) (h : HeadId) (x : HeadDecoder) : Part := { p with hdec := p.hdec.set h x }
def Part.setSupv (p : Part) (h : HeadId) (x : HeadHealth) : Part := { p with supv := p.supv.set h x }
def Part.setScnt (p : Part) (i : SectionId) (x : SectionRec) : Part := { p with scnt := p.scnt.set i x }
def Part.setSlot (p : Part) (n : SlotId) (x : Slot) : Part := { p with slots := p.slots.set n x }
def Part.setGen (p : Part) (g : Generator) : Part := { p with gen := g }
def Part.setJrnl (p : Part) (j : Journal) : Part := { p with jrnl := j }
def Part.setTopo (p : Part) (t : Topology) : Part := { p with topo := t }
def Part.setTbase (p : Part) (t : Timebase) : Part := { p with tbase := t }
def Part.setTicks (p : Part) (t : Ticks) : Part := { p with ticks := t }
def Part.setSent (p : Part) (m : InFlight) : Part := { p with sent := m }

/-- The mode is RUNNING. -/
def Part.running (p : Part) : Bool := decide (p.topo.mode = .running)

/-- The head entry of a head (R110). -/
def Part.headEntry (p : Part) (h : HeadId) : HeadEntry := p.topo.params.heads[h]

/-- The section entry of a section (R111). -/
def Part.sectionEntry (p : Part) (i : SectionId) : SectionEntry := p.topo.params.sections[i]

/-- A head is used when at least one of its sides names a section (R110). -/
def HeadEntry.used (e : HeadEntry) : Bool := e.sideA.isSome || e.sideB.isSome

/-- The head is used. -/
def Part.used (p : Part) (h : HeadId) : Bool := (p.headEntry h).used

/-- The adjacent sections of a head, side a before side b (R28, R31). -/
def Part.adjacent (p : Part) (h : HeadId) : List SectionId :=
  (p.headEntry h).sideA.toList ++ (p.headEntry h).sideB.toList

/-! ### Events in flight -/

def Part.sendScnt (p : Part) (m : ToScnt) : Part := p.setSent { p.sent with scnt := p.sent.scnt ++ [m] }
def Part.sendSupv (p : Part) (m : ToSupv) : Part := p.setSent { p.sent with supv := p.sent.supv ++ [m] }
def Part.sendRecovered (p : Part) (h : HeadId) : Part :=
  p.setSent { p.sent with recovered := p.sent.recovered ++ [h] }
def Part.sendCopy (p : Part) (c : EdgeCopy) : Part := p.setSent { p.sent with copies := p.sent.copies ++ [c] }
def Part.sendAsk (p : Part) (a : SampleAsk) : Part := p.setSent { p.sent with asks := p.sent.asks ++ [a] }
def Part.sendAnswer (p : Part) (a : SampleAnswer) : Part :=
  p.setSent { p.sent with answers := p.sent.answers ++ [a] }

/-- The event is taken: its oldest copy in flight goes. -/
def Part.tookScnt (p : Part) (m : ToScnt) : Part := p.setSent { p.sent with scnt := p.sent.scnt.erase m }
def Part.tookSupv (p : Part) (m : ToSupv) : Part := p.setSent { p.sent with supv := p.sent.supv.erase m }
def Part.tookStale (p : Part) (m : ToSupv) : Part := p.setSent { p.sent with stale := p.sent.stale.erase m }
def Part.tookRecovered (p : Part) (h : HeadId) : Part :=
  p.setSent { p.sent with recovered := p.sent.recovered.erase h }

/-- The head a report to SUPV names. -/
def ToSupv.head : ToSupv → HeadId
  | .separationFault h | .glitch h | .cleanPassage h | .testPassed h | .testFailed h => h

/-- The head has failed: the reports for it that are in flight at that moment will be taken and discarded, whenever SUPV
takes them (R74). -/
def Part.staleReports (p : Part) (h : HeadId) : Part :=
  p.setSent
    { p.sent with
      supv := p.sent.supv.filter fun m => decide (m.head ≠ h)
      stale := p.sent.stale ++ p.sent.supv.filter fun m => decide (m.head = h) }

/-! ### The journal -/

/-- (a − b) mod 2^k for ring places (R157, R159). -/
def ringSub (k a b : Nat) : Nat := (a + 2 ^ k - b % 2 ^ k) % 2 ^ k

/-- The ring's space (R157). -/
def Journal.space (j : Journal) (k : Nat) : Nat := ringSub k (ringSub k j.consumer j.producer) 1

/-- JRNL starts a record write when it is active, writes none, has a record queued and the ring has space: it
offers w1 (R157). -/
def Journal.startWrite (j : Journal) (k : Nat) : Journal :=
  if j.active = true ∧ j.writing = none ∧ j.queue ≠ [] ∧ 0 < j.space k then { j with writing := some .w1 }
  else j

/-- The record enters at the young end with the next sequence number and the ms counter (R154, R156). -/
def Journal.enter (j : Journal) (now : Word) (d : Detail) : Journal :=
  { j with queue := j.queue ++ [{ detail := d, seq := j.nextSeq, time := now }], nextSeq := j.nextSeq + 1#16 }

/-- Whether the queue has a free place (R154). -/
def Journal.hasPlace (j : Journal) : Bool := decide (j.queue.length < Config.queuePlaces)

/-- The record is dropped and counted, held at 65535 (R155). -/
def Journal.drop (j : Journal) : Journal := { j with dropped := min 65535 (j.dropped + 1) }

/-- The record enters if a place is still free behind a GAP record, and is dropped otherwise (R155). -/
def Journal.enterOrDrop (j : Journal) (now : Word) (d : Detail) : Journal :=
  if j.hasPlace then j.enter now d else j.drop

/-- JRNL takes a record: the four rows of R155's table. -/
def Journal.queueRecord (j : Journal) (now : Word) (d : Detail) : Journal :=
  if !j.hasPlace then j.drop
  else if j.dropped = 0 then j.enter now d
  else ({ j.enter now (.gap j.dropped) with dropped := 0 } : Journal).enterOrDrop now d

/-- JRNL takes a record and, where that gives it the first work, starts the write (R154, R155, R157). -/
def Journal.take (j : Journal) (k : Nat) (now : Word) (d : Detail) : Journal :=
  (j.queueRecord now d).startWrite k

/-- A block hands in a record: JRNL takes records while it is active, in RUNNING (R153). -/
def Part.record (p : Part) (now : Word) (d : Detail) : Part :=
  if p.running && p.jrnl.active then p.setJrnl (p.jrnl.take p.topo.params.ringCode now d) else p

/-! ### Request slots -/

/-- ACTIVE and WAITING are in progress (R138). -/
def SlotState.inProgress (x : SlotState) : Bool := decide (x = .active) || decide (x = .waiting)

/-- The slot is in progress. -/
def Slot.busy (x : Slot) : Bool := x.state.inProgress

/-- The REQUEST record of a slot's final state (R149). -/
def Slot.request (x : Slot) (n : SlotId) (r : Result) : Detail := .request n x.kind x.target x.token r

/-- The slot reaches a final state: REQE sets state and result and queues the REQUEST record (R147, R149). -/
def Part.finishSlot (p : Part) (now : Word) (n : SlotId) (st : SlotState) (r : Result) : Part :=
  (p.setSlot n { p.slots[n] with state := st, result := some r }).record now (p.slots[n].request n r)

/-- REQE applies an owner's report only when the slot it names is in progress with the kind and target the
report names (R148). -/
def Part.report (p : Part) (now : Word) (n : SlotId) (kind : Nat) (target : Nat) (st : SlotState) (r : Result) :
    Part :=
  if p.slots[n].busy && decide (p.slots[n].kind.toNat = kind) && decide (p.slots[n].target.toNat = target) then
    p.finishSlot now n st r
  else p

/-! ### Section records -/

/-- An update counts when it changes the state, the count or the cause (R30). -/
def SectionRec.counted (old new : SectionRec) : SectionRec :=
  { new with changes :=
      if old.state = new.state ∧ old.count = new.count ∧ old.cause = new.cause then old.changes
      else old.changes + 1#8 }

/-- One update of a section: the record with its change count, and a SECTION record when the state changes
(R30, R31). -/
def Part.updateSection (p : Part) (now : Word) (i : SectionId) (new : SectionRec) : Part :=
  let q := p.setScnt i (SectionRec.counted p.scnt[i] new)
  if p.scnt[i].state = new.state then q
  else q.record now (.section_ i p.scnt[i].state new.state new.count new.cause)

/-- Entry into DISTURBED (R39): cause set, count 0, moved as given, reset slot removed. -/
def SectionRec.disturb (x : SectionRec) (c : Cause) (moved : Bool) : SectionRec :=
  { x with state := .disturbed, count := 0, cause := some c, moved := moved, slot := none }

/-- An event that disturbs a section not yet disturbed and marks a disturbed one as moved (R40, R42, R44, R45). An
UNUSED section is not touched. -/
def SectionRec.disturbOrMark (c : Cause) (x : SectionRec) : SectionRec :=
  match x.state with
  | .disturbed => { x with moved := true }
  | .unused => x
  | _ => x.disturb c false

/-- The slot of a sweep that the update from `old` to `new` breaks (R43). -/
def SectionRec.broken (old new : SectionRec) : Option SlotId :=
  if old.state ≠ .disturbed ∧ new.state = .disturbed then old.slot else none

/-- SCNT reports *sweep broken* for the slot a section carried (R43, R147). -/
def Part.reportBroken (p : Part) (now : Word) (i : SectionId) (b : Option SlotId) : Part :=
  match b with
  | none => p
  | some n => p.report now n 1 i.val .failed .sweepBroken

/-- One event applied to some sections in one update: the SECTION records in the order of the list, then the
reports of the sweeps it breaks (R31, R33, R43). -/
def Part.applySections (p : Part) (now : Word) (l : List (SectionId × SectionRec)) : Part :=
  let q := l.foldl (fun q e => q.updateSection now e.1 e.2) p
  l.foldl (fun q e => q.reportBroken now e.1 (SectionRec.broken p.scnt[e.1] e.2)) q

/-- The event reaches each adjacent section of a head, side a before side b. -/
def Part.disturbAdjacent (p : Part) (now : Word) (h : HeadId) (c : Cause) : Part :=
  p.applySections now ((p.adjacent h).map fun i => (i, SectionRec.disturbOrMark c p.scnt[i]))

/-! ### Heads -/

/-- What HDEC holds for one system. -/
def HeadDecoder.sensor (x : HeadDecoder) : System → Sensor
  | .sysA => x.sensorA
  | .sysB => x.sensorB

/-- Replace what HDEC holds for one system. -/
def HeadDecoder.setSensor (x : HeadDecoder) (y : System) (v : Sensor) : HeadDecoder :=
  match y with
  | .sysA => { x with sensorA := v }
  | .sysB => { x with sensorB := v }

/-- Neither system is damped. -/
def HeadDecoder.free (x : HeadDecoder) : Bool := !x.sensorA.damped && !x.sensorB.damped

/-- The six traverse phases (R4). -/
def Phase.isTraverse : Phase → Bool
  | .arrA | .ovrA | .depA | .arrB | .ovrB | .depB => true
  | _ => false

/-- A head takes scores and decodes in these states alone (R5, R74). -/
def Health.inService : Health → Bool
  | .healthy | .marginal | .degraded => true
  | _ => false

/-- Heads ready are HEALTHY or MARGINAL (R55). -/
def Health.ready : Health → Bool
  | .healthy | .marginal => true
  | _ => false

/-- A head is decoding (R5). -/
def Part.decoding (p : Part) (h : HeadId) : Bool :=
  p.running && p.used h && decide (p.supv[h].health ≠ .failed) && decide (p.supv[h].health ≠ .recovering) &&
    decide (p.hdec[h].phase ≠ .test) && decide (p.hdec[h].phase ≠ .off)

/-- The head with everything OFF clears (R17, R25). -/
def HeadDecoder.toOff (x : HeadDecoder) : HeadDecoder :=
  { x with
    phase := .off, suspect := false, dwellStart := none, standing := false, shadowPhase := none,
    shadowSuspect := false }

/-- IDLE or UNSETTLED by the levels, with the dwell start of UNSETTLED (R15). -/
def HeadDecoder.settleByLevels (x : HeadDecoder) (ms : Word) : HeadDecoder :=
  if x.free then { x with phase := .idle, dwellStart := none, shadowPhase := none, shadowSuspect := false }
  else
    { x with
      phase := .unsettled, dwellStart := some ms, suspect := false, shadowPhase := none,
      shadowSuspect := false }

/-- Standing ends: a STANDING end record if it was set (R14). -/
def Part.standingEnd (p : Part) (now : Word) (h : HeadId) (was : Bool) : Part :=
  if was then p.record now (.standing h true) else p

/-- HDEC puts a failed head in OFF: what it was doing is abandoned without an outcome, and standing ends
with a record (R17). -/
def Part.headOff (p : Part) (now : Word) (h : HeadId) : Part :=
  (p.setHdec h p.hdec[h].toOff).standingEnd now h p.hdec[h].standing

/-- All heads, in ascending number. -/
def allHeads : List HeadId := List.finRange 32

/-- All sections, in ascending number. -/
def allSections : List SectionId := List.finRange 24

/-- All slots, in ascending number. -/
def allSlots : List SlotId := List.finRange 8

/-! ### The two forms of an outcome -/

/-- The part acts on nothing but the release of PORST while PORST is asserted (R168). -/
def State.powered (s t : State) : Host.Outcome State Fault Refusal :=
  .next (if s.path.porst then s else t)

/-- The blocks after a command, everything else as it was. -/
def State.withPart (s : State) (p : Part) : State := { s with part := p }

end Sys2Proof.Machine
end

