-- ==== Sys2Proof/Machine/Scnt.lean ====
section
/-! DEFINITION. The section counter (chapters 2 and 3): passages, notices, the settle tick, and the dispatches of
sweep, prepared reset and cancel. -/

namespace Sys2Proof.Machine

open Sys2Proof

/-- The largest count a section holds (R27). -/
def maxCount : Nat := 1023

/-- An enter (R34, R36). -/
def SectionRec.enter (x : SectionRec) : SectionRec :=
  match x.state with
  | .clear => { x with state := .occupied, count := 1 }
  | .occupied => if x.count < maxCount then { x with count := x.count + 1 } else x.disturb .overflow false
  | .settling => { x with state := if x.slot.isSome then .sweeping else .occupied, count := 1 }
  | .sweepWait => { x with state := .sweeping, count := 1 }
  | .sweeping => if x.count < maxCount then { x with count := x.count + 1 } else x.disturb .overflow false
  | .disturbed => { x with moved := true }
  | .unused => x

/-- A leave; `code` is the section's settle code (R35, R36). -/
def SectionRec.leave (x : SectionRec) (code : Nat) : SectionRec :=
  match x.state with
  | .clear => x.disturb .underflow false
  | .occupied =>
    if 1 < x.count then { x with count := x.count - 1 }
    else { x with state := .settling, count := 0, remaining := code }
  | .settling => x.disturb .underflow false
  | .sweepWait => x.disturb .underflow false
  | .sweeping =>
    if 1 < x.count then { x with count := x.count - 1 }
    else { x with state := .settling, count := 0, remaining := code }
  | .disturbed => { x with moved := true }
  | .unused => x

/-- A passage at one section: an enter when the passage ends on the section's side, a leave when it begins
there (R28, R33). -/
def Part.crossed (p : Part) (i : SectionId) (enters : Bool) : SectionId × SectionRec :=
  (i, if enters then p.scnt[i].enter else p.scnt[i].leave (p.sectionEntry i).settle)

/-- SCNT applies a passage to the sections of both sides in one update, side a's record first (R31, R33). -/
def Part.passage (p : Part) (h : HeadId) (d : Direction) : Part :=
  p.applySections p.tbase.ms
    (((p.headEntry h).sideA.toList.map fun i => p.crossed i (decide (d = .bToA)))
      ++ ((p.headEntry h).sideB.toList.map fun i => p.crossed i (decide (d = .aToB))))

/-- A movement notice marks the disturbed sections beside the head as moved (R41). -/
def SectionRec.markMoved (x : SectionRec) : SectionRec :=
  if x.state = .disturbed then { x with moved := true } else x

/-- SCNT takes a movement notice (R41). -/
def Part.movement (p : Part) (h : HeadId) : Part :=
  (p.adjacent h).foldl (fun q i => q.setScnt i q.scnt[i].markMoved) p

/-! ### The settle tick -/

/-- Every bounding head of the section is in IDLE (R37, R65). -/
def Part.headsIdle (p : Part) (i : SectionId) : Bool :=
  p.scnt[i].bounding.all fun e => decide (p.hdec[e.1].phase = .idle)

/-- A SETTLING section whose wait has run out becomes CLEAR; a reset slot it carried goes in the same update
and is reported complete after the SECTION record (R38, R59). -/
def Part.waitEnds (p : Part) (now : Word) (i : SectionId) : Part :=
  let q := p.updateSection now i { p.scnt[i] with state := .clear, slot := none }
  match p.scnt[i].slot with
  | none => q
  | some n => q.report now n 1 i.val .done .ok

/-- The settle tick finds the section at the end of its wait (R37). -/
def Part.waitOver (p : Part) (i : SectionId) : Bool :=
  decide (p.scnt[i].state = .settling) && p.headsIdle i && decide (p.scnt[i].remaining = 0)

/-- SCNT examines one section at a settle tick (R37). -/
def Part.settleSection (p : Part) (now : Word) (i : SectionId) : Part :=
  if p.scnt[i].state ≠ .settling then p
  else if !p.headsIdle i then p.setScnt i { p.scnt[i] with remaining := (p.sectionEntry i).settle }
  else if p.scnt[i].remaining = 0 then p.waitEnds now i
  else p.setScnt i { p.scnt[i] with remaining := p.scnt[i].remaining - 1 }

/-- SCNT takes the settle tick: every section in ascending number, in one update (R37). -/
def Part.settleAll (p : Part) (now : Word) : Part := allSections.foldl (fun q i => q.settleSection now i) p

/-- The settle tick given first is taken; outside RUNNING SCNT ignores it (R32, R50, R52). One given in UNCONFIGURED and
not taken before the commit is taken in RUNNING as any other: the model's choice (log entry 37). -/
def Part.settleTick (p : Part) : Part :=
  match p.ticks.scnt with
  | [] => p
  | v :: rest =>
    let q := p.setTicks { p.ticks with scnt := rest }
    if q.running then q.settleAll v else q

/-! ### Restorations -/

/-- The section's heads are ready (R55). -/
def Part.headsReady (p : Part) (i : SectionId) : Bool :=
  p.scnt[i].bounding.all fun e => p.supv[e.1].health.ready

/-- Every bounding head is in IDLE and not standing (R55). -/
def Part.headsQuiet (p : Part) (i : SectionId) : Bool :=
  p.scnt[i].bounding.all fun e => decide (p.hdec[e.1].phase = .idle) && !p.hdec[e.1].standing

/-- SCNT's conditions of a SWEEP_RESET, in order; `none` when all hold (R56). -/
def Part.sweepRefusal (p : Part) (i : SectionId) : Option Result :=
  if p.scnt[i].state ≠ .disturbed then some .state
  else if !p.headsReady i then some .headNotReady
  else none

/-- SCNT accepts a sweep from slot n (R57). -/
def Part.acceptSweep (p : Part) (n : SlotId) (i : SectionId) : Part :=
  p.updateSection p.tbase.ms i
    { p.scnt[i] with state := .sweepWait, count := 0, cause := none, moved := false, slot := some n }

/-- The causes that allow a prepared reset (R62). -/
def Cause.preparable : Cause → Bool
  | .headFailed | .testAbort | .resetCancelled => true
  | _ => false

/-- SCNT's conditions of a PREPARED_RESET, in order; `none` when all hold (R62). -/
def Part.preparedRefusal (p : Part) (i : SectionId) : Option Result :=
  if p.scnt[i].state ≠ .disturbed then some .state
  else if !(p.sectionEntry i).prepared then some .cause
  else if !(p.scnt[i].cause.any Cause.preparable) then some .cause
  else if p.scnt[i].moved then some .moved
  else if !(p.headsReady i && p.headsQuiet i) then some .headNotReady
  else none

/-- SCNT accepts a prepared reset (R63). -/
def Part.acceptPrepared (p : Part) (i : SectionId) : Part :=
  p.updateSection p.tbase.ms i { p.scnt[i] with state := .clear, count := 0, cause := none, moved := false }

/-- The moved flag after the cancel of a sweep (R65). -/
def Part.cancelMoved (p : Part) (i : SectionId) : Bool :=
  !(decide (p.scnt[i].state = .sweepWait) && p.headsIdle i)

/-- SCNT ends the sweep of slot n as cancelled, in the section that carries the slot (R65). -/
def Part.cancelSweep (p : Part) (n : SlotId) : Part :=
  match allSections.find? fun i => decide (p.scnt[i].slot = some n) with
  | none => p
  | some i => p.updateSection p.tbase.ms i (p.scnt[i].disturb .resetCancelled (p.cancelMoved i))

/-! ### Taking an event in flight -/

/-- SCNT takes an event that is in flight; in RUNNING it acts on it, otherwise the event has no effect
(R32, R52). An event that is not in flight is none. -/
def State.takeScnt (s : State) (m : ToScnt) (f : Part → Part) : Host.Outcome State Fault Refusal :=
  s.powered
    (if m ∈ s.part.sent.scnt then
      s.withPart (if s.part.running then f (s.part.tookScnt m) else s.part.tookScnt m)
    else s)

/-! ### Meanings -/

/-- PASSAGE_EVENT. -/
def execPassageEvent (h : HeadId) (d : Direction) (s : State) : Host.Outcome State Fault Refusal :=
  s.takeScnt (.passage h d) fun p => p.passage h d

/-- SUSPECT_END_EVENT: COUNT_SUSPECT, or moved (R40). -/
def execSuspectEndEvent (h : HeadId) (s : State) : Host.Outcome State Fault Refusal :=
  s.takeScnt (.suspectEnd h) fun p => p.disturbAdjacent p.tbase.ms h .countSuspect

/-- MOVEMENT_NOTICE. -/
def execMovementNotice (h : HeadId) (s : State) : Host.Outcome State Fault Refusal :=
  s.takeScnt (.movement h) fun p => p.movement h

/-- UNSETTLED_CHANGE_NOTICE: COUNT_SUSPECT, or moved (R42). -/
def execUnsettledChangeNotice (h : HeadId) (s : State) : Host.Outcome State Fault Refusal :=
  s.takeScnt (.unsettledChange h) fun p => p.disturbAdjacent p.tbase.ms h .countSuspect

/-- TEST_ABORT_NOTICE: TEST_ABORT, or moved (R45). -/
def execTestAbortNotice (h : HeadId) (s : State) : Host.Outcome State Fault Refusal :=
  s.takeScnt (.testAbort h) fun p => p.disturbAdjacent p.tbase.ms h .testAbort

/-- SETTLE_TICK. -/
def execSettleTick (s : State) : Host.Outcome State Fault Refusal := s.powered (s.withPart s.part.settleTick)

/-- SETTLE_WAIT_END: the settle tick in hand, when it ends the wait of the section (R37, R38). -/
def execSettleWaitEnd (i : SectionId) (s : State) : Host.Outcome State Fault Refusal :=
  s.powered
    (if s.part.ticks.scnt ≠ [] ∧ s.part.running ∧ s.part.waitOver i then s.withPart s.part.settleTick else s)

end Sys2Proof.Machine
end

