-- ==== Sys2Proof/Machine/Supv.lean ====
section
/-! DEFINITION. The supervision monitor (chapter 4): the analog scan, the score and the health state, the failure of
a head, recoveries and their ends. -/

namespace Sys2Proof.Machine

open Sys2Proof

/-! ### The scan -/

/-- The class of a sample (R69). -/
def Params.ampClass (c : Params) (a : Amp) : AmpClass :=
  let v := a.toNat
  if v ≤ c.openMax then .open_
  else if c.dampedLow ≤ v ∧ v ≤ c.dampedHigh then .damped
  else if c.normalLow ≤ v ∧ v ≤ c.normalHigh then .normal
  else if c.shortMin ≤ v then .short
  else .indeterminate

/-- The system's digital level is stable at a sample (R72). -/
def Sensor.stable (x : Sensor) (us : Word) : Bool :=
  decide (15 ≤ x.edgeAge) || decide (2000 ≤ (us - x.edgeTime).toNat)

/-- A change of the health score (R74). -/
inductive ScoreChange where
  | up (n : Nat)
  | down (n : Nat)
  deriving DecidableEq, Repr

/-- The score after a change, held within 0 and 255 (R74). -/
def ScoreChange.apply : ScoreChange → Nat → Nat
  | .up n, x => min 255 (x + n)
  | .down n, x => x - n

/-- The score event of a scanned system, if any (R71). -/
def scanEvent (c : AmpClass) (x : Sensor) (us : Word) : Option (ScoreChange × Trigger) :=
  match c with
  | .open_ => some (.up 64, .scanOpen)
  | .short => some (.up 64, .scanShort)
  | .indeterminate => some (.up 4, .scanIndeterminate)
  | .damped => if !x.damped && x.stable us then some (.up 8, .scanDisagree) else none
  | .normal => if x.damped && x.stable us then some (.up 8, .scanDisagree) else none

/-! ### Score and health -/

/-- The health state after a change of the score (R76). -/
def healthAfter (old : Health) (score : Nat) : Health :=
  match old with
  | .healthy =>
    if 224 ≤ score then .failed else if 112 ≤ score then .degraded else if 48 ≤ score then .marginal
    else .healthy
  | .marginal =>
    if 224 ≤ score then .failed else if 112 ≤ score then .degraded else if 32 ≤ score then .marginal
    else .healthy
  | .degraded =>
    if 224 ≤ score then .failed else if 96 ≤ score then .degraded else if 32 ≤ score then .marginal
    else .healthy
  | other => other

/-- The further effects of a change to FAILED, in the same update: the reports in flight for the head are to be
discarded (R74), the head is in OFF, then the head-failure notice goes to the adjacent sections (R44, R80). -/
def Part.headFails (p : Part) (now : Word) (h : HeadId) : Part :=
  ((p.staleReports h).headOff now h).disturbAdjacent now h .headFailed

/-- The health changes with the score: the HEAD record first (R76, R77, R80). -/
def Part.healthChange (p : Part) (now : Word) (h : HeadId) (score : Nat) (t : Trigger) (y : Option System) :
    Part :=
  let old := p.supv[h].health
  let new := healthAfter old score
  let q := p.setSupv h { p.supv[h] with score := score, health := new }
  if new = old then q
  else
    let r := q.record now (.head h old new score t y)
    if new = .failed then r.headFails now h else r

/-- A score event of a head: discarded when the head is FAILED or RECOVERING, nothing when the score stays
(R74). -/
def Part.scoreEvent (p : Part) (now : Word) (h : HeadId) (c : ScoreChange) (t : Trigger) (y : Option System) :
    Part :=
  if !p.supv[h].health.inService then p
  else if c.apply p.supv[h].score = p.supv[h].score then p
  else p.healthChange now h (c.apply p.supv[h].score) t y

/-- The scan score event of one system (R70, R71). -/
def Part.scanSystem (p : Part) (now : Word) (h : HeadId) (y : System) (c : AmpClass) : Part :=
  match scanEvent c (p.hdec[h].sensor y) p.tbase.us with
  | none => p
  | some e => p.scoreEvent now h e.1 e.2 (some y)

/-! ### Recovery -/

/-- The last edge times of both systems as HDEC holds them (R82, R83). -/
def HeadDecoder.edgeTimes (x : HeadDecoder) : Word × Word := (x.sensorA.edgeTime, x.sensorB.edgeTime)

/-- The head is quiet (R83). -/
def quietNow (x : HeadDecoder) (v : HeadHealth) : Bool :=
  decide (v.classA = some .normal) && decide (v.classB = some .normal) && x.free
    && decide (v.refTimes = some x.edgeTimes)

/-- A recovery ends: counts 0, reference edge times and restart slot absent (R84, R85, R86). -/
def HeadHealth.endRecovery (v : HeadHealth) (new : Health) (score : Nat) : HeadHealth :=
  { v with
    health := new, score := score, quiet := 0, restartCount := 0, refTimes := none, restartSlot := none }

/-- The report of a restart's end for the slot the head carried (R84, R85, R147). -/
def Part.reportRestart (p : Part) (now : Word) (h : HeadId) (slot : Option SlotId) (st : SlotState)
    (r : Result) : Part :=
  match slot with
  | none => p
  | some n => p.report now n 3 h.val st r

/-- The recovery is complete: HEALTHY with score 0, HEAD record, slot DONE, and the report to HDEC (R84). -/
def Part.recoveryDone (p : Part) (now : Word) (h : HeadId) : Part :=
  let v := p.supv[h]
  (((p.setSupv h (v.endRecovery .healthy 0)).record now (.head h .recovering .healthy 0 .recovered none)).reportRestart
    now h v.restartSlot .done .ok).sendRecovered h

/-- The quiet check of a RECOVERING head; the 250th quiet tick in a row completes the recovery in the same
update (R83, R84). -/
def Part.quietCheck (p : Part) (now : Word) (h : HeadId) : Part :=
  let x := p.hdec[h]
  let v := p.supv[h]
  let n := if quietNow x v then v.quiet + 1 else 0
  let q := p.setSupv h { v with quiet := n, refTimes := some x.edgeTimes }
  if Config.quietGoal ≤ n then q.recoveryDone now h else q

/-- One head's update of a supervision tick: classes, score events of A and B, quiet check (R70, R83). -/
def Part.superviseHead (p : Part) (now : Word) (h : HeadId) (a b : Amp) : Part :=
  let ca := p.topo.params.ampClass a
  let cb := p.topo.params.ampClass b
  let q := p.setSupv h { p.supv[h] with classA := some ca, classB := some cb }
  let r := (q.scanSystem now h .sysA ca).scanSystem now h .sysB cb
  if p.supv[h].health = .recovering then r.quietCheck now h else r

/-- SUPV scans the head (R70). -/
def Part.scannable (p : Part) (h : HeadId) : Bool := p.used h && decide (p.hdec[h].phase ≠ .test)

/-- The next head of the pass, from a place on (R70). -/
def Part.nextScan (p : Part) (n : Nat) : Option HeadId :=
  allHeads.find? fun h => decide (n ≤ h.val) && p.scannable h

/-- A tick value lies before another as the ms counter stands: more ms ticks have passed since it (R166). -/
def givenBefore (now a b : Word) : Bool := decide ((now - b).toNat < (now - a).toNat)

/-- The tick a block takes next of one kind: the oldest, unless one of its other kind given before it waits; two that
fell together may be taken in either order (R166). -/
def nextTick (now : Word) (own other : List Word) : Option Word :=
  match own, other with
  | [], _ => none
  | u :: _, [] => some u
  | u :: _, v :: _ => if givenBefore now v u then none else some u

/-- The supervision tick that SUPV takes next (R166). -/
def Part.nextSupvTick (p : Part) : Option Word := nextTick p.tbase.ms p.ticks.supv p.ticks.slowSupv

/-- SUPV stands inside a pass over the heads that its oldest supervision tick has begun (R70). -/
def Part.inPass (p : Part) : Bool := decide (p.ticks.scanNext ≠ 0) && !p.ticks.supv.isEmpty

/-- The slow tick that SUPV takes next: none inside a pass, since a supervision tick is one pass and the slow tick is
an event of its own, before it or after it (R70, R166). -/
def Part.nextSlowTick (p : Part) : Option Word :=
  if p.inPass then none else nextTick p.tbase.ms p.ticks.slowSupv p.ticks.supv

/-- The oldest supervision tick has been taken. -/
def Part.supvTickDone (p : Part) : Part :=
  p.setTicks { p.ticks with supv := p.ticks.supv.tail, scanNext := 0 }

/-- The pass goes on behind a head, or ends when no head is left to scan (R70). -/
def Part.passOn (p : Part) (h : HeadId) : Part :=
  match p.nextScan (h.val + 1) with
  | none => p.supvTickDone
  | some _ => p.setTicks { p.ticks with scanNext := h.val + 1 }

/-- SUPV takes the part of the oldest supervision tick that concerns a head, in ascending order, when no slow tick
comes before it; outside RUNNING the tick has no effect (R70, R166). -/
def Part.supervisionTick (p : Part) (h : HeadId) (a b : Amp) : Part :=
  match p.nextSupvTick with
  | none => p
  | some v =>
    if !p.running then p.supvTickDone
    else
      match p.nextScan p.ticks.scanNext with
      | none => p.supvTickDone
      | some g => if g = h then (p.superviseHead v h a b).passOn h else p

/-- The supervision tick in hand brings the head's quiet count to 250 (R84). -/
def Part.completesRecovery (p : Part) (h : HeadId) (a b : Amp) : Bool :=
  p.running && p.nextSupvTick.isSome && decide (p.nextScan p.ticks.scanNext = some h)
    && decide (p.supv[h].health = .recovering) && decide (Config.quietGoal ≤ p.supv[h].quiet + 1)
    && quietNow p.hdec[h]
        { p.supv[h] with
          classA := some (p.topo.params.ampClass a), classB := some (p.topo.params.ampClass b) }

/-- The restart limit ends a recovery: FAILED, HEAD record, slot FAILED with TIMEOUT (R85). -/
def Part.restartTimesOut (p : Part) (now : Word) (h : HeadId) : Part :=
  let v := p.supv[h]
  ((p.setSupv h (v.endRecovery .failed v.score)).record now
    (.head h .recovering .failed v.score .restartTimeout none)).reportRestart now h v.restartSlot .failed .timeout

/-- The slow tick at one head (R85). -/
def Part.slowHead (p : Part) (now : Word) (h : HeadId) : Part :=
  let v := p.supv[h]
  if v.health ≠ .recovering then p
  else if p.topo.params.restartLimit ≤ v.restartCount + 1 then p.restartTimesOut now h
  else p.setSupv h { v with restartCount := v.restartCount + 1 }

/-- SUPV takes the oldest slow tick given to it, when no supervision tick comes before it and none stands inside its
pass; outside RUNNING it has no effect (R70, R85, R91, R166). Heads are handled in ascending number, each with its HEAD
and then its REQUEST record, in one update: the model's choice, since R85 gives no order of heads (log entry 32). -/
def Part.supvSlowTick (p : Part) : Part :=
  match p.nextSlowTick with
  | none => p
  | some v =>
    let q := p.setTicks { p.ticks with slowSupv := p.ticks.slowSupv.tail }
    if q.running then allHeads.foldl (fun q h => q.slowHead v h) q else q

/-- The slow tick in hand brings the head's restart-limit count to the limit (R85). -/
def Part.timesOut (p : Part) (h : HeadId) : Bool :=
  p.running && p.nextSlowTick.isSome && decide (p.supv[h].health = .recovering)
    && decide (p.topo.params.restartLimit ≤ p.supv[h].restartCount + 1)

/-! ### Restart -/

/-- SUPV's condition of a HEAD_RESTART; `none` when it holds (R82). -/
def Part.restartRefusal (p : Part) (h : HeadId) : Option Result :=
  if p.supv[h].health = .failed then none else some .state

/-- SUPV accepts a restart from slot n (R82). -/
def Part.acceptRestart (p : Part) (n : SlotId) (h : HeadId) : Part :=
  p.setSupv h
    { p.supv[h] with
      health := .recovering, quiet := 0, restartCount := 0, refTimes := some p.hdec[h].edgeTimes,
      restartSlot := some n }

/-- SUPV ends the restart of slot n as cancelled, at the head that carries the slot (R86). -/
def Part.cancelRestart (p : Part) (n : SlotId) : Part :=
  match allHeads.find? fun h => decide (p.supv[h].restartSlot = some n) with
  | none => p
  | some h =>
    (p.setSupv h (p.supv[h].endRecovery .failed p.supv[h].score)).record p.tbase.ms
      (.head h .recovering .failed p.supv[h].score .restartCancelled none)

/-! ### Reports -/

/-- SUPV takes a report that is in flight. One that was sent before its head failed is discarded, whatever the health at
the taking (R74); where an equal report of a later time is in flight too, the older is taken first (log entry 35). Any
other is a score event; a head in TEST takes none, so its report stays in flight (R74, R75, R94; log entry 13). Outside
RUNNING no score event is taken (R91). -/
def State.takeSupv (s : State) (m : ToSupv) (h : HeadId) (c : ScoreChange) (t : Trigger) (after : Part → Part) :
    Host.Outcome State Fault Refusal :=
  s.powered
    (if m ∈ s.part.sent.stale then s.withPart (after (s.part.tookStale m))
    else if m ∈ s.part.sent.supv ∧ s.part.hdec[h].phase ≠ .test then
      s.withPart
        (if s.part.running then (after (s.part.tookSupv m)).scoreEvent s.part.tbase.ms h c t none
         else after (s.part.tookSupv m))
    else s)

/-- The taking of a test's score report clears report pending (R92). -/
def Part.reportTaken (p : Part) : Part := p.setGen { p.gen with reportPending := false }

/-! ### Meanings -/

/-- SUPERVISION_TICK. -/
def execSupervisionTick (h : HeadId) (a b : Amp) (s : State) : Host.Outcome State Fault Refusal :=
  s.powered (s.withPart (s.part.supervisionTick h a b))

/-- RECOVERY_COMPLETE: the head's update of the supervision tick in hand, when it brings the quiet count to 250
(R83, R84). -/
def execRecoveryComplete (h : HeadId) (a b : Amp) (s : State) : Host.Outcome State Fault Refusal :=
  s.powered (if s.part.completesRecovery h a b then s.withPart (s.part.supervisionTick h a b) else s)

/-- RESTART_TIMEOUT: SUPV's slow tick in hand, when it brings the head's count to the limit (R85). -/
def execRestartTimeout (h : HeadId) (s : State) : Host.Outcome State Fault Refusal :=
  s.powered (if s.part.timesOut h then s.withPart s.part.supvSlowTick else s)

/-- SEPARATION_FAULT_REPORT: +32. -/
def execSeparationFaultReport (h : HeadId) (s : State) : Host.Outcome State Fault Refusal :=
  s.takeSupv (.separationFault h) h (.up 32) .separation id

/-- GLITCH_REPORT: +8. -/
def execGlitchReport (h : HeadId) (s : State) : Host.Outcome State Fault Refusal :=
  s.takeSupv (.glitch h) h (.up 8) .glitch id

/-- CLEAN_PASSAGE_REPORT: −1. -/
def execCleanPassageReport (h : HeadId) (s : State) : Host.Outcome State Fault Refusal :=
  s.takeSupv (.cleanPassage h) h (.down 1) .cleanPassage id

/-- TEST_PASSED_REPORT: −16 (R100). -/
def execTestPassedReport (h : HeadId) (s : State) : Host.Outcome State Fault Refusal :=
  s.takeSupv (.testPassed h) h (.down 16) .testPass Part.reportTaken

/-- TEST_FAILED_REPORT: +64 (R101). -/
def execTestFailedReport (h : HeadId) (s : State) : Host.Outcome State Fault Refusal :=
  s.takeSupv (.testFailed h) h (.up 64) .testFail Part.reportTaken

/-- SAMPLE_REQUEST: SUPV takes the oldest request in flight, samples and classifies both systems, stores no
class, and hands the classes to TGEN; in HALTED the inputs are not sampled (R73, R91). -/
def Part.takeSample (p : Part) (a b : Amp) : Part :=
  match p.sent.asks with
  | [] => p
  | q :: rest =>
    let r := p.setSent { p.sent with asks := rest }
    if r.running then
      r.sendAnswer
        { classA := p.topo.params.ampClass a, classB := p.topo.params.ampClass b, serial := q.serial }
    else r

/-- SAMPLE_REQUEST. -/
def execSampleRequest (a b : Amp) (s : State) : Host.Outcome State Fault Refusal :=
  s.powered (s.withPart (s.part.takeSample a b))

end Sys2Proof.Machine
end

