-- ==== Sys2Proof/Machine/Tgen.lean ====
section
/-! DEFINITION. The test generator (chapter 5): acceptance, the pattern, the judgement of edge copies, the ends of a
test, the release time. -/

namespace Sys2Proof.Machine

open Sys2Proof

/-! ### The pattern -/

/-- The levels driven in a step, A then B (R95). -/
def stepDrive : Direction → Nat → Bool × Bool
  | .aToB, 1 => (true, false)
  | .aToB, 2 => (true, true)
  | .aToB, 3 => (false, true)
  | .bToA, 1 => (false, true)
  | .bToA, 2 => (true, true)
  | .bToA, 3 => (true, false)
  | _, _ => (false, false)

/-- The expected response of a step (R95). -/
def stepResponse : Direction → Nat → Option (System × EdgeDir)
  | .aToB, 1 => some (.sysA, .rising)
  | .aToB, 2 => some (.sysB, .rising)
  | .aToB, 3 => some (.sysA, .falling)
  | .aToB, 4 => some (.sysB, .falling)
  | .bToA, 1 => some (.sysB, .rising)
  | .bToA, 2 => some (.sysA, .rising)
  | .bToA, 3 => some (.sysB, .falling)
  | .bToA, 4 => some (.sysA, .falling)
  | _, _ => none

/-- The direction of the test; present in RUNNING and RELEASING (R92). -/
def Generator.dir (g : Generator) : Direction := g.direction.getD .aToB

/-- A step begins on the tick at which the ms counter reads `ms` (R95). -/
def Generator.beginStep (g : Generator) (k : Nat) (ms : Word) (t : Nat) : Generator :=
  { g with
    step := k, stepStart := some ms, stepDeadline := some (ms + BitVec.ofNat 32 t),
    expectA := (stepDrive g.dir k).1, expectB := (stepDrive g.dir k).2, response := false,
    followOpen := true }

/-- The tick closes the follow window: the ms counter reads step start + 1 (R96). -/
def Generator.closesWindow (g : Generator) (ms : Word) : Bool :=
  decide (1 ≤ g.step) && g.followOpen && decide (g.stepStart = some (ms - 1#32))

/-- The tick is the middle of step 2 (R98). -/
def Generator.midStep (g : Generator) (ms : Word) (t : Nat) : Bool :=
  decide (g.step = 2) && decide (g.stepStart = some (ms - BitVec.ofNat 32 (t / 2)))

/-- The tick is the step's deadline (R97). -/
def Generator.atDeadline (g : Generator) (ms : Word) : Bool :=
  decide (1 ≤ g.step) && decide (g.stepDeadline = some ms)

/-- The tick has an effect on the generator in RUNNING (R95 to R98). -/
def Generator.tickActs (g : Generator) (ms : Word) (t : Nat) : Bool :=
  decide (g.step = 0) || g.closesWindow ms || g.midStep ms t || g.atDeadline ms

/-- A copied edge is expected (R96). -/
def Generator.expects (g : Generator) (c : EdgeCopy) : Bool :=
  decide (1 ≤ g.step) && g.followOpen && decide (stepResponse g.dir g.step = some (c.y, c.d)) && !g.response

/-- The end-of-pattern check (R99). -/
def Generator.passes (g : Generator) : Bool :=
  decide (g.outcomes = [(.counted, g.dir)]) && !g.shadowSeparation

/-! ### The ends of a test -/

/-- The generator becomes IDLE, its outputs undamped; report pending stays as it is (R100, R102). -/
def Generator.toIdle (g : Generator) : Generator :=
  { Generator.powerOn g.serial with reportPending := g.reportPending }

/-- The drive is released and the release allowance opened: 5 ms ticks, and the systems HDEC holds damped are
the expected releases (R101, R103, R104). -/
def Generator.release (g : Generator) (x : HeadDecoder) : Generator :=
  { g.toIdle with
    state := .releasing, target := g.target, direction := g.direction,
    releaseLeft := some Config.releaseTicks, releaseA := x.sensorA.damped, releaseB := x.sensorB.damped,
    tickDue := g.tickDue }

/-- A head leaves TEST by its levels (R15, R21). -/
def Part.leaveTest (p : Part) (h : HeadId) : Part := p.setHdec h (p.hdec[h].settleByLevels p.tbase.ms)

/-- The step a record names: absent for step 0 (R102, R103). -/
def recordStep (k : Nat) : Option Nat := if k = 0 then none else some k

/-- REQE's setting of the test slot (R147). -/
def Part.reportTest (p : Part) (h : HeadId) (slot : Option SlotId) (st : SlotState) (r : Result) : Part :=
  match slot with
  | none => p
  | some n => p.report p.tbase.ms n 4 h.val st r

/-- A pass: generator IDLE, head out of TEST, TEST record, slot DONE, and the score report (R100). -/
def Part.testPasses (p : Part) (h : HeadId) : Part :=
  let g := p.gen
  let q := (((p.setGen { g.toIdle with reportPending := true }).leaveTest h).record p.tbase.ms
    (.test h g.dir .pass none none)).reportTest h g.slot .done .ok
  q.sendSupv (.testPassed h)

/-- A fail: drive released, allowance opened, head out of TEST, TEST record, slot FAILED, and the score report
(R101). -/
def Part.testFails (p : Part) (h : HeadId) (check : TestCheck) : Part :=
  let g := p.gen
  let q := (((p.setGen { g.release p.hdec[h] with reportPending := true }).leaveTest h).record p.tbase.ms
    (.test h g.dir .fail (some g.step) (some check))).reportTest h g.slot .failed .testFail
  q.sendSupv (.testFailed h)

/-- An abort: drive released, no allowance, head out of TEST, TEST record; SCNT takes the test-abort notice in
this update, so that its SECTION records stand between the TEST and the REQUEST record (R102; log entry 11). -/
def Part.testAborts (p : Part) (h : HeadId) : Part :=
  let g := p.gen
  let q := ((p.setGen g.toIdle).leaveTest h).record p.tbase.ms
    (.test h g.dir .abort (recordStep g.step) (some .unexpectedEdge))
  (q.disturbAdjacent p.tbase.ms h .testAbort).reportTest h g.slot .failed .testAbort

/-- TGEN's part of a cancel of a test in RUNNING: drive released, allowance opened, head out of TEST, TEST
record (R103). -/
def Part.cancelTest (p : Part) : Part :=
  let g := p.gen
  match g.target with
  | none => p
  | some h =>
    if g.state = .running then
      ((p.setGen (g.release p.hdec[h])).leaveTest h).record p.tbase.ms
        (.test h g.dir .cancel (recordStep g.step) none)
    else p

/-- The release check disturbs the sections: a test-abort notice is sent, a TEST record queued, the allowance
closes (R104, R105). -/
def Part.releaseAborts (p : Part) (h : HeadId) (check : TestCheck) : Part :=
  let g := p.gen
  ((p.setGen g.toIdle).sendScnt (.testAbort h)).record p.tbase.ms
    (.test h g.dir .releaseAbort none (some check))

/-! ### Ticks -/

/-- The end of a step (R97, R99). -/
def Part.stepEnds (p : Part) (h : HeadId) : Part :=
  let g := p.gen
  if !g.response then p.testFails h .missingResponse
  else if g.step < 4 then p.setGen (g.beginStep (g.step + 1) p.tbase.ms p.topo.params.stepTime)
  else if g.passes then p.testPasses h
  else p.testFails h .noPassage

/-- TGEN asks SUPV for the mid-step sample (R98). -/
def Part.askSample (p : Part) (h : HeadId) : Part := p.sendAsk { h := h, serial := p.gen.serial }

/-- The release time ends: TGEN judges the head's phase and the allowance closes (R105). -/
def Part.releaseEnds (p : Part) (h : HeadId) : Part :=
  if p.hdec[h].phase = .unsettled then p.releaseAborts h .notIdle else p.setGen p.gen.toIdle

/-- The tick in hand has been taken. -/
def Generator.tickTaken (g : Generator) : Generator := { g with tickDue := false }

/-- The pattern starts (R95). -/
def Part.patternStart (p : Part) : Part :=
  if p.gen.tickDue = true ∧ p.gen.state = .running ∧ p.gen.step = 0 then
    p.setGen (p.gen.tickTaken.beginStep 1 p.tbase.ms p.topo.params.stepTime)
  else p

/-- TGEN takes the tick in hand within a step: it closes the follow window when the tick does, and then asks for the
mid-step sample when the tick does that too, in one update (R96, R98). -/
def Part.tickWithinStep (p : Part) : Part :=
  let q := p.setGen
    { p.gen.tickTaken with followOpen := p.gen.followOpen && !p.gen.closesWindow p.tbase.ms }
  match p.gen.target with
  | none => q
  | some h => if p.gen.midStep p.tbase.ms p.topo.params.stepTime then q.askSample h else q

/-- The follow window closes (R96). -/
def Part.followWindowClose (p : Part) : Part :=
  if p.gen.tickDue = true ∧ p.gen.state = .running ∧ p.gen.closesWindow p.tbase.ms = true then p.tickWithinStep
  else p

/-- The mid-step sample is asked for (R98). -/
def Part.midStepSample (p : Part) : Part :=
  if p.gen.tickDue = true ∧ p.gen.state = .running ∧
      p.gen.midStep p.tbase.ms p.topo.params.stepTime = true then
    p.tickWithinStep
  else p

/-- The step's deadline (R97). -/
def Part.stepDeadline (p : Part) : Part :=
  match p.gen.target with
  | none => p
  | some h =>
    if p.gen.tickDue = true ∧ p.gen.state = .running ∧ p.gen.atDeadline p.tbase.ms = true then
      (p.setGen p.gen.tickTaken).stepEnds h
    else p

/-- The end of the release time, at the fifth tick (R105). -/
def Part.releaseTimeEnd (p : Part) : Part :=
  match p.gen.target with
  | none => p
  | some h =>
    if p.gen.tickDue = true ∧ p.gen.state = .releasing ∧ p.gen.releaseLeft = some 1 then p.releaseEnds h
    else p

/-- A tick taken in RELEASING lowers the release deadline (R105). -/
def Generator.lowerRelease (g : Generator) : Generator :=
  { g with releaseLeft := g.releaseLeft.map fun n => n - 1, tickDue := false }

/-- The tick in hand, in RELEASING with more than one tick left: it lowers the deadline (R105). -/
def Part.lowerPending (p : Part) : Part :=
  if p.gen.tickDue = true ∧ p.gen.state = .releasing ∧ p.gen.releaseLeft ≠ some 1 then
    p.setGen p.gen.lowerRelease
  else p

/-- A tick in hand that TGEN has not taken when the next is given is taken first, with all it does
(R166; log entry 5). -/
def Part.takePendingTick (p : Part) : Part :=
  if p.gen.state = .releasing then p.lowerPending.releaseTimeEnd
  else p.patternStart.midStepSample.followWindowClose.stepDeadline

/-- TGEN is given the ms tick: a tick without an effect is taken at once, a tick in RELEASING lowers the
deadline down to its last, any other stays in hand (R95 to R98, R105). -/
def Generator.giveTick (g : Generator) (ms : Word) (t : Nat) : Generator :=
  match g.state with
  | .idle => { g with tickDue := false }
  | .running => { g with tickDue := g.tickActs ms t }
  | .releasing => if g.releaseLeft = some 1 then { g with tickDue := true } else g.lowerRelease

/-! ### Copies and answers -/

/-- TGEN judges a copied edge by the generator as it stands at the taking (R96, R102, R104). A copy that its test has
outlived, taken while a later test runs or releases, is judged by that test when it is of its head and has no effect
when it is of another: the model's choice, since no rule names such a copy (log entry 38). -/
def Part.judgeCopy (p : Part) (c : EdgeCopy) : Part :=
  if p.gen.target ≠ some c.h then p
  else
    match p.gen.state with
    | .idle => p
    | .running =>
      if p.gen.expects c then p.setGen { p.gen with response := true } else p.testAborts c.h
    | .releasing =>
      match c.d, c.y with
      | .falling, .sysA =>
        if p.gen.releaseA then p.setGen { p.gen with releaseA := false } else p.releaseAborts c.h .unexpectedEdge
      | .falling, .sysB =>
        if p.gen.releaseB then p.setGen { p.gen with releaseB := false } else p.releaseAborts c.h .unexpectedEdge
      | .rising, _ => p.releaseAborts c.h .unexpectedEdge

/-- TGEN takes the oldest copy in flight (R96). -/
def Part.takeCopy (p : Part) : Part :=
  match p.sent.copies with
  | [] => p
  | c :: rest => (p.setSent { p.sent with copies := rest }).judgeCopy c

/-- TGEN judges a sample answer: discarded unless the generator is RUNNING in step 2 of the test that asked
(R98). -/
def Part.judgeAnswer (p : Part) (a : SampleAnswer) : Part :=
  match p.gen.target with
  | none => p
  | some h =>
    if p.gen.state = .running ∧ p.gen.step = 2 ∧ p.gen.serial = a.serial then
      if a.classA = .damped ∧ a.classB = .damped then p else p.testFails h .midSample
    else p

/-- TGEN takes the oldest answer in flight (R98). -/
def Part.takeAnswer (p : Part) : Part :=
  match p.sent.answers with
  | [] => p
  | a :: rest => (p.setSent { p.sent with answers := rest }).judgeAnswer a

/-! ### Acceptance -/

/-- A side of the head is NONE or names a CLEAR section (R93). -/
def Part.sidesClear (p : Part) (h : HeadId) : Bool :=
  (p.adjacent h).all fun i => decide (p.scnt[i].state = .clear)

/-- TGEN's conditions of a HEAD_TEST, in order; `none` when all hold (R93). -/
def Part.testRefusal (p : Part) (h : HeadId) : Option Result :=
  if !(p.used h && p.supv[h].health.inService) then some .headNotReady
  else if !(decide (p.hdec[h].phase = .idle) && !p.hdec[h].standing) then some .headNotReady
  else if !p.sidesClear h then some .state
  else if !(decide (p.gen.state = .idle) && !p.gen.reportPending) then some .testBusy
  else none

/-- The generator accepts a test from slot n (R94). -/
def Generator.accept (g : Generator) (n : SlotId) (h : HeadId) (d : Direction) : Generator :=
  { Generator.powerOn (g.serial + 1) with
    state := .running, target := some h, slot := some n, direction := some d }

/-- The head enters TEST (R19, R94). -/
def HeadDecoder.enterTest (x : HeadDecoder) : HeadDecoder :=
  { x with
    phase := .test, suspect := false, dwellStart := none, shadowPhase := some .idle, shadowSuspect := false }

/-- TGEN accepts a test of a head (R94). -/
def Part.acceptTest (p : Part) (n : SlotId) (h : HeadId) : Part :=
  (p.setGen (p.gen.accept n h (paramDirection p.slots[n].param))).setHdec h p.hdec[h].enterTest

/-! ### Meanings -/

/-- PATTERN_START. -/
def execPatternStart (s : State) : Host.Outcome State Fault Refusal := s.powered (s.withPart s.part.patternStart)

/-- FOLLOW_WINDOW_CLOSE. -/
def execFollowWindowClose (s : State) : Host.Outcome State Fault Refusal :=
  s.powered (s.withPart s.part.followWindowClose)

/-- STEP_DEADLINE. -/
def execStepDeadline (s : State) : Host.Outcome State Fault Refusal := s.powered (s.withPart s.part.stepDeadline)

/-- MID_STEP_SAMPLE. -/
def execMidStepSample (s : State) : Host.Outcome State Fault Refusal :=
  s.powered (s.withPart s.part.midStepSample)

/-- MID_SAMPLE_ANSWER. -/
def execMidSampleAnswer (s : State) : Host.Outcome State Fault Refusal := s.powered (s.withPart s.part.takeAnswer)

/-- EDGE_COPY. -/
def execEdgeCopy (s : State) : Host.Outcome State Fault Refusal := s.powered (s.withPart s.part.takeCopy)

/-- RELEASE_TIME_END. -/
def execReleaseTimeEnd (s : State) : Host.Outcome State Fault Refusal :=
  s.powered (s.withPart s.part.releaseTimeEnd)

end Sys2Proof.Machine
end

