-- ==== Sys2Proof/Machine/Reqe.lean ====
section
/-! DEFINITION. The request engine (chapter 8): the screening of a command word, the dispatches, cancel, the
parameter copy. -/

namespace Sys2Proof.Machine

open Sys2Proof

/-- The slot as a request sets it (R141). -/
def Slot.request_ (x : Slot) (w : Word) (st : SlotState) (r : Option Result) : Slot :=
  { x with state := st, kind := cmdKind w, target := cmdTarget w, token := cmdToken w, result := r }

/-- The REQUEST record of a command word (R142, R149). -/
def requestDetail (n : SlotId) (w : Word) (r : Result) : Detail :=
  .request n (cmdKind w) (cmdTarget w) (cmdToken w) r

/-- A refusal at step 4 or later: the slot becomes REFUSED with the code, and the REQUEST record is queued
(R141, R149). -/
def Part.refuse (p : Part) (n : SlotId) (w : Word) (r : Result) : Part :=
  (p.setSlot n (p.slots[n].request_ w .refused (some r))).record p.tbase.ms (requestDetail n w r)

/-- A request that ends at its acceptance: the slot becomes DONE with OK, and the REQUEST record is queued
(R145, R146, R149). -/
def Part.doneOk (p : Part) (n : SlotId) (w : Word) : Part :=
  (p.setSlot n (p.slots[n].request_ w .done (some .ok))).record p.tbase.ms (requestDetail n w .ok)

/-- A request that takes time: the slot is in progress, and no record is queued (R145). -/
def Part.startSlot (p : Part) (n : SlotId) (w : Word) (st : SlotState) : Part :=
  p.setSlot n (p.slots[n].request_ w st none)

/-! ### Steps 7 and 8 -/

/-- The kinds of object a request names (R144). -/
inductive ObjectKind where
  | section_
  | head
  | slot
  deriving DecidableEq, Repr

/-- What a kind's target names (R140, R144). -/
def objectOfKind (kind : Nat) : ObjectKind :=
  if kind ≤ 2 then .section_ else if kind ≤ 4 then .head else .slot

/-- Step 7: the target is in range and in service (R143). -/
def Part.targetInService (p : Part) (n : SlotId) (w : Word) : Bool :=
  match objectOfKind (cmdKind w).toNat with
  | .section_ => (targetSection (cmdTarget w)).any fun i => (p.sectionEntry i).inUse
  | .head => (targetHead (cmdTarget w)).any fun h => p.used h
  | .slot => (targetSlot (cmdTarget w)).any fun m => decide (m ≠ n)

/-- A slot in progress names the object of its kind with its target (R144). -/
def Slot.names (x : Slot) (o : ObjectKind) (target : Byte) : Bool :=
  x.busy && decide (objectOfKind x.kind.toNat = o) && decide (x.target = target)

/-- Step 8: another slot in progress names the same object (R144). -/
def Part.targetBusy (p : Part) (n : SlotId) (w : Word) : Bool :=
  allSlots.any fun m =>
    decide (m ≠ n) && p.slots[m].names (objectOfKind (cmdKind w).toNat) (cmdTarget w)

/-! ### Step 9 -/

/-- Dispatch of a SWEEP_RESET (R54, R56, R57). -/
def Part.dispatchSweep (p : Part) (n : SlotId) (w : Word) : Part :=
  match targetSection (cmdTarget w) with
  | none => p.refuse n w .badTarget
  | some i =>
    match p.sweepRefusal i with
    | some r => p.refuse n w r
    | none => (p.acceptSweep n i).startSlot n w .waiting

/-- Dispatch of a PREPARED_RESET (R54, R62, R63). -/
def Part.dispatchPrepared (p : Part) (n : SlotId) (w : Word) : Part :=
  match targetSection (cmdTarget w) with
  | none => p.refuse n w .badTarget
  | some i =>
    match p.preparedRefusal i with
    | some r => p.refuse n w r
    | none => (p.acceptPrepared i).doneOk n w

/-- Dispatch of a HEAD_RESTART (R82). -/
def Part.dispatchRestart (p : Part) (n : SlotId) (w : Word) : Part :=
  match targetHead (cmdTarget w) with
  | none => p.refuse n w .badTarget
  | some h =>
    match p.restartRefusal h with
    | some r => p.refuse n w r
    | none => (p.acceptRestart n h).startSlot n w .waiting

/-- Dispatch of a HEAD_TEST, with the direction of the parameter copy (R93, R94, R139). -/
def Part.dispatchTest (p : Part) (n : SlotId) (w : Word) : Part :=
  match targetHead (cmdTarget w) with
  | none => p.refuse n w .badTarget
  | some h =>
    match p.testRefusal h with
    | some r => p.refuse n w r
    | none => (p.acceptTest n h).startSlot n w .active

/-- The owner's part of a cancel, by the named slot's kind (R146). -/
def Part.cancelWork (p : Part) (m : SlotId) : Part :=
  if p.slots[m].kind = 1#8 then p.cancelSweep m
  else if p.slots[m].kind = 3#8 then p.cancelRestart m
  else p.cancelTest

/-- A CANCEL: refused when the named slot is not in progress; otherwise the owner's update, the named slot
CANCELLED, the cancelling slot DONE, with their records in that order (R146). -/
def Part.dispatchCancel (p : Part) (n : SlotId) (w : Word) : Part :=
  match targetSlot (cmdTarget w) with
  | none => p.refuse n w .badTarget
  | some m =>
    if !p.slots[m].busy then p.refuse n w .nothingToCancel
    else ((p.cancelWork m).finishSlot p.tbase.ms m .cancelled .cancelled).doneOk n w

/-- Step 9 by kind, 1 to 5 (R145, R146). -/
def Part.dispatch (p : Part) (n : SlotId) (w : Word) : Part :=
  if cmdKind w = 1#8 then p.dispatchSweep n w
  else if cmdKind w = 2#8 then p.dispatchPrepared n w
  else if cmdKind w = 3#8 then p.dispatchRestart n w
  else if cmdKind w = 4#8 then p.dispatchTest n w
  else p.dispatchCancel n w

/-! ### The acceptance order -/

/-- Steps 4 to 8: the refusal of the first that applies (R141). -/
def Part.earlyRefusal (p : Part) (n : SlotId) (w : Word) : Option Result :=
  if !p.running then some .notRunning
  else if cmdCheck w ≠ ~~~ cmdToken w then some .badCheck
  else if 5 < (cmdKind w).toNat then some .badKind
  else if !p.targetInService n w then some .badTarget
  else if p.targetBusy n w then some .targetBusy
  else none

/-- REQE takes a full-width write of a command word (R141, R142). -/
def Part.request (p : Part) (n : SlotId) (w : Word) : Part :=
  if cmdKind w = 0#8 then p
  else if p.slots[n].busy then p.record p.tbase.ms (requestDetail n w .slotBusy)
  else
    match p.earlyRefusal n w with
    | some r => p.refuse n w r
    | none => p.dispatch n w

/-- REQE takes a write of a command word: fewer than four lanes is no request (R141, R142). -/
def Part.commandWrite (p : Part) (n : SlotId) (lanes : Lanes) (w : Word) (addr : Addr) : Part :=
  if lanes = fullLanes then p.request n w
  else p.record p.tbase.ms (.violation addr .partialCommand)

/-- REQE takes a write of a parameter word, lane by lane, in every mode and slot state (R139). -/
def Part.paramWrite (p : Part) (n : SlotId) (lanes : Lanes) (w : Word) : Part :=
  p.setSlot n { p.slots[n] with param := mergeLanes p.slots[n].param w lanes }

end Sys2Proof.Machine
end

