-- ==== Sys2Proof/Machine/Jrnl.lean ====
section
/-! DEFINITION. The journal writer towards the ring (chapter 9): the words offered to the port, the end of a record
write, the HALT record, the consumer word. -/

namespace Sys2Proof.Machine

open Sys2Proof

/-- The word of a record after the one that completed: w1, w2, w3, w0 (R157). -/
def RecordWordIx.next : RecordWordIx → Option RecordWordIx
  | .w1 => some .w2
  | .w2 => some .w3
  | .w3 => some .w0
  | .w0 => none

/-- The byte address of a word of the record in writing (R157). -/
def Journal.wordAddr (j : Journal) (base : Addr) (ix : RecordWordIx) : Addr :=
  base + BitVec.ofNat 24 (16 * j.producer + ix.offset)

/-- The journal word that JRNL offers to the port, if any (R132, R157). -/
def Journal.offered (j : Journal) (base : Addr) : Option JournalWord :=
  match j.writing, j.queue with
  | some ix, r :: _ => some { addr := j.wordAddr base ix, data := r.word ix }
  | _, _ => none

/-- A HALT record held pending enters at the first place that frees (R163). The halt state is none again until the
record is written: the model's choice, since R163 names no value for that span (log entry 33). -/
def Journal.enterHalt (j : Journal) (now : Word) : Journal :=
  match j.halt with
  | .pending sum dropped =>
    if j.hasPlace then { j.enter now (.halt sum dropped) with halt := .none } else j
  | _ => j

/-- A record's detail is HALT. -/
def Detail.isHalt : Detail → Bool
  | .halt _ _ => true
  | _ => false

/-- The record leaves the queue, the producer index and the last written sequence number advance (R158). -/
def Journal.leaves (j : Journal) (k : Nat) (r : JRecord) (rest : List JRecord) : Journal :=
  { j with
    queue := rest, producer := (j.producer + 1) % 2 ^ k, lastSeq := r.seq, writing := none }

/-- JRNL has written the HALT record: stopped and inactive (R163). -/
def Journal.stop (j : Journal) : Journal := { j with halt := .stopped, active := false }

/-- The write of w0 completes (R158): a pending HALT record enters the place that frees, and the next record
write starts; after the HALT record JRNL stops (R157, R163). -/
def Journal.recordDone (j : Journal) (k : Nat) (now : Word) : Journal :=
  match j.queue with
  | [] => j
  | r :: rest =>
    if r.detail.isHalt then (j.leaves k r rest).stop
    else (((j.leaves k r rest).enterHalt now).startWrite k)

/-- A journal word has completed on the port (R157, R158). -/
def Journal.wordDone (j : Journal) (k : Nat) (now : Word) : Journal :=
  match j.writing with
  | none => j
  | some ix =>
    match ix.next with
    | some nx => { j with writing := some nx }
    | none => j.recordDone k now

/-- JRNL takes the records of the mode change to HALTED: the REQUEST records, then the HALT record with the
dropped count, entered at once or held pending (R163). -/
def Journal.halted (j : Journal) (k : Nat) (now : Word) (ended : List Detail) (sum : BitVec 16) : Journal :=
  let q := ended.foldl (fun q d => q.take k now d) j
  let r := { q with dropped := 0 }
  if q.hasPlace then (r.enter now (.halt sum q.dropped)).startWrite k
  else { r with halt := .pending sum q.dropped }

/-- JRNL starts at an accepted commit and takes the START record (R162). -/
def Journal.started (check : BitVec 16) (k : Nat) (now : Word) : Journal :=
  ({ Journal.powerOn with active := true } : Journal).take k now (.start check k)

/-- A consumer value lies on the way forward from the accepted consumer index to the producer index (R159). -/
def Journal.onTheWay (j : Journal) (k v : Nat) : Bool :=
  decide (v < 2 ^ k) && decide (ringSub k v j.consumer ≤ ringSub k j.producer j.consumer)

/-- JRNL judges a consumer value: accepted, or kept with CONSUMER_RANGE in RUNNING (R159). -/
def Part.consumerJudged (p : Part) (v : Word) (addr : Addr) : Part :=
  if p.jrnl.onTheWay p.topo.params.ringCode v.toNat then
    p.setJrnl (({ p.jrnl with consumer := v.toNat } : Journal).startWrite p.topo.params.ringCode)
  else p.record p.tbase.ms (.violation addr .consumerRange)

/-- A consumer word write is handed to JRNL in RUNNING and HALTED when it is full width (R129, R159). -/
def Part.consumerWrite (p : Part) (lanes : Lanes) (v : Word) (addr : Addr) : Part :=
  if lanes = fullLanes ∧ p.topo.mode ≠ .unconfigured then p.consumerJudged v addr else p

end Sys2Proof.Machine
end

