-- ==== Sys2Proof/Machine/Topo.lean ====
section
/-! DEFINITION. The topology store (chapter 6): the words of the shadow, the nine checks of a commit, an accepted
and a refused commit, the re-check of a slow tick, the change to HALTED, and corruption of the shadow. -/

namespace Sys2Proof.Machine

open Sys2Proof

/-! ### The words of the topology (R109 to R111, R170) -/

/-- Global word g`j`. -/
def globalWord (m : List (Nat × Word)) (j : Nat) : Word := Shadow.word m j

/-- The word of a head entry, at offset 0x2100 + 4h. -/
def headEntryWord (m : List (Nat × Word)) (h : HeadId) : Word := Shadow.word m (64 + h.val)

/-- The word of a section entry, at offset 0x2200 + 4s. -/
def sectionEntryWord (m : List (Nat × Word)) (i : SectionId) : Word := Shadow.word m (128 + i.val)

/-- The parameters as the shadow words give them (R109 to R111). -/
def Params.ofShadow (m : List (Nat × Word)) : Params :=
  { minSep := field (globalWord m 0) 0 8,
    minPulse := field (globalWord m 0) 16 10,
    dwellLimit := field (globalWord m 1) 0 8,
    restartLimit := field (globalWord m 1) 8 8,
    stepTime := field (globalWord m 1) 16 8,
    openMax := field (globalWord m 2) 0 10,
    dampedLow := field (globalWord m 2) 16 10,
    dampedHigh := field (globalWord m 3) 0 10,
    normalLow := field (globalWord m 3) 16 10,
    normalHigh := field (globalWord m 4) 0 10,
    shortMin := field (globalWord m 4) 16 10,
    ringBase := (globalWord m 5).extractLsb' 0 24,
    ringCode := field (globalWord m 5) 24 4,
    passageRecords := (globalWord m 6).getLsbD 0,
    heads := Vector.ofFn fun h => headEntryOf (headEntryWord m h),
    sections := Vector.ofFn fun i => sectionEntryOf (sectionEntryWord m i) }

/-! ### The nine checks (R113) -/

/-- A value lies in a range, both ends included. -/
def within (lo hi v : Nat) : Bool := decide (lo ≤ v) && decide (v ≤ hi)

/-- Check 2: the first global word that fails its tests (R114). -/
def Params.badWord (c : Params) : Option Nat :=
  if !(within 10 255 c.minSep && within 20 1000 c.minPulse) then some 0
  else if !(within 1 255 c.dwellLimit && within 1 255 c.restartLimit && within 2 30 c.stepTime) then some 1
  else if !decide (c.openMax < c.dampedLow) then some 2
  else if !(decide (c.dampedLow ≤ c.dampedHigh) && decide (c.dampedHigh < c.normalLow)) then some 3
  else if !(decide (c.normalLow ≤ c.normalHigh) && decide (c.normalHigh < c.shortMin)) then some 4
  else none

/-- Check 3: the ring is misplaced (R113). -/
def Params.ringMisplaced (c : Params) (aps : BitVec 4) : Bool :=
  !within 4 10 c.ringCode || decide (c.ringBase.toNat % (16 * 2 ^ c.ringCode) ≠ 0)
    || decide (c.ringBase.toNat / 0x10000 = 0xF0 + aps.toNat)

/-- A side field holds a value from 24 to 254 (R113). -/
def badSideField (v : Nat) : Bool := within 24 254 v

/-- Check 4 at one head (R113). -/
def badHeadSides (w : Word) : Bool :=
  badSideField (field w 0 8) || badSideField (field w 8 8)
    || (decide (field w 0 8 = field w 8 8) && decide (field w 0 8 < 24))

/-- Check 5 at one head: a side names a section that is not in use (R113). -/
def Params.namesUnused (c : Params) (h : HeadId) : Bool :=
  (c.heads[h].sideA.toList ++ c.heads[h].sideB.toList).any fun i => !(c.sections[i].inUse)

/-- The side of a head that names a section, if one does (R28). -/
def HeadEntry.sideNaming (e : HeadEntry) (i : SectionId) : Option Side :=
  if e.sideA = some i then some .sideA else if e.sideB = some i then some .sideB else none

/-- The bounding heads of a section with their inward sides, by head number (R28). -/
def Params.bounding (c : Params) (i : SectionId) : List (HeadId × Side) :=
  allHeads.filterMap fun h => (c.heads[h].sideNaming i).map fun d => (h, d)

/-- Check 8 at one section: settle code above 15, or prepared permitted while not in use (R113). -/
def badSectionEntry (e : SectionEntry) : Bool := decide (15 < e.settle) || (e.prepared && !e.inUse)

/-- Checks 4 to 9 on the entries, in order (R113). -/
def Params.judgeEntries (c : Params) (m : List (Nat × Word)) : CommitCode × Nat :=
  match allHeads.find? fun h => badHeadSides (headEntryWord m h) with
  | some h => (.badHeadEntry, h.val)
  | none =>
    match allHeads.find? fun h => c.namesUnused h with
    | some h => (.badHeadEntry, h.val)
    | none =>
      match allSections.find? fun i => c.sections[i].inUse && (c.bounding i).isEmpty with
      | some i => (.sectionWithoutHead, i.val)
      | none =>
        match allSections.find? fun i => decide (8 < (c.bounding i).length) with
        | some i => (.tooManyHeads, i.val)
        | none =>
          match allSections.find? fun i => badSectionEntry c.sections[i] with
          | some i => (.badSectionEntry, i.val)
          | none =>
            if allHeads.any fun h => c.heads[h].used then (.accepted, 0) else (.noHeads, 0)

/-- The nine checks on the shadow: the result code and the entry index (R113). -/
def judgeCommit (m : List (Nat × Word)) (aps : BitVec 4) (check : BitVec 16) : CommitCode × Nat :=
  if Shadow.sum m ≠ check then (.checkMismatch, 0)
  else
    match (Params.ofShadow m).badWord with
    | some j => (.badParameter, j)
    | none =>
      if (Params.ofShadow m).ringMisplaced aps then (.ringPlacement, 5)
      else (Params.ofShadow m).judgeEntries m

/-! ### An accepted commit (R117) -/

/-- HDEC at an accepted commit (R24). -/
def HeadDecoder.atCommit (x : HeadDecoder) (used : Bool) (ms : Word) : HeadDecoder :=
  if used then x.toOff.settleByLevels ms else x.toOff

/-- SCNT at an accepted commit (R28, R51). -/
def SectionRec.atCommit (c : Params) (i : SectionId) : SectionRec :=
  if c.sections[i].inUse then
    { SectionRec.powerOn with state := .disturbed, cause := some .powerUp, bounding := c.bounding i }
  else SectionRec.powerOn

/-- SUPV at an accepted commit (R90). -/
def HeadHealth.atCommit (used : Bool) : HeadHealth :=
  if used then { HeadHealth.powerOn with health := .healthy } else HeadHealth.powerOn

/-- TOPO and the ring region at an accepted commit (R117, R131). -/
def Topology.accepted (t : Topology) (check : BitVec 16) (c : Params) : Topology :=
  { t with
    mode := .running, check := check, result := .accepted, entry := 0, params := c,
    ring := some { base := c.ringBase.toNat, size := 16 * 2 ^ c.ringCode } }

/-- The update of an accepted commit; TGEN, the slots and TBASE stay as they are (R117). So do the ticks given before it
that a block has not yet taken, which that block then takes in RUNNING: the model's choice, since no rule names that
crossing (log entry 37). -/
def Part.acceptCommit (p : Part) (check : BitVec 16) : Part :=
  let c := Params.ofShadow p.topo.shadow
  { p with
    hdec := Vector.ofFn fun h => p.hdec[h].atCommit c.heads[h].used p.tbase.ms,
    scnt := Vector.ofFn fun i => SectionRec.atCommit c i,
    supv := Vector.ofFn fun h => HeadHealth.atCommit c.heads[h].used,
    jrnl := Journal.started check c.ringCode p.tbase.ms,
    topo := p.topo.accepted check c }

/-- A refused commit replaces the commit result and nothing else (R115). -/
def Part.refuseCommit (p : Part) (r : CommitCode × Nat) : Part :=
  p.setTopo { p.topo with result := r.1, entry := r.2 }

/-- A commit: validation and its consequence, one update (R112, R113). -/
def Part.commit (p : Part) (aps : BitVec 4) (check : BitVec 16) : Part :=
  let r := judgeCommit p.topo.shadow aps check
  if r.1 = .accepted then p.acceptCommit check else p.refuseCommit r

/-- A full-width write of action 1 to the commit word is a commit, any other write is none (R112). -/
def commitJudged (place : Place) (lanes : Lanes) (w : Word) : Bool :=
  decide (place = commitPlace) && decide (lanes = fullLanes) && decide (w.extractLsb' 0 16 = 1#16)

/-- TOPO takes a write of the topology window in UNCONFIGURED: the shadow, then the judgement of the commit word
(R107, R112). -/
def Part.topologyWrite (p : Part) (aps : BitVec 4) (place : Place) (lanes : Lanes) (w : Word) : Part :=
  let q := p.setTopo { p.topo with shadow := Shadow.merge p.topo.shadow place lanes w }
  if commitJudged place lanes w then q.commit aps (w.extractLsb' 16 16) else q

/-! ### HALTED (R120) -/

/-- SCNT at the change to HALTED (R52). -/
def SectionRec.atHalt (x : SectionRec) : SectionRec :=
  if x.state = .unused then x
  else { x.disturb .internal false with changes := x.changes + 1#8 }

/-- REQE at the change to HALTED: a slot in progress becomes FAILED with result HALTED (R151). -/
def Slot.atHalt (x : Slot) : Slot :=
  if x.busy then { x with state := .failed, result := some .halted } else x

/-- The REQUEST records of the slots that HALTED ends, in ascending slot number (R120, R163). -/
def Part.haltRecords (p : Part) : List Detail :=
  allSlots.filterMap fun n => if p.slots[n].busy then some (p.slots[n].request n .halted) else none

/-- The update of the change to HALTED, with the shadow sum found (R120). SUPV keeps what it holds (R91), the restart
slot of a RECOVERING head with it: the model's choice, since R91 does not name that item (log entry 39). -/
def Part.halt (p : Part) (now : Word) (sum : BitVec 16) : Part :=
  { p with
    hdec := p.hdec.map HeadDecoder.toOff,
    scnt := p.scnt.map SectionRec.atHalt,
    gen := Generator.powerOn p.gen.serial,
    slots := p.slots.map Slot.atHalt,
    jrnl := p.jrnl.halted p.topo.params.ringCode now p.haltRecords sum,
    topo := { p.topo with mode := .halted } }

/-- TOPO takes the oldest slow tick given to it: the re-check in RUNNING (R119). -/
def Part.topoSlowTick (p : Part) : Part :=
  match p.ticks.slowTopo with
  | [] => p
  | v :: rest =>
    let q := p.setTicks { p.ticks with slowTopo := rest }
    if q.running && decide (Shadow.sum q.topo.shadow ≠ q.topo.check) then q.halt v (Shadow.sum q.topo.shadow)
    else q

/-- A corruption of the shadow's storage in RUNNING changes the bits concerned (R119). -/
def Part.corruptShadow (p : Part) (place : Place) (bits : Word) : Part :=
  if p.running then
    p.setTopo
      { p.topo with
        shadow := Shadow.set p.topo.shadow place (Shadow.word p.topo.shadow place.val ^^^ bits) }
  else p

/-! ### Meanings -/

/-- The slow tick as the named block takes it (R85, R119). -/
def Part.slowTick (p : Part) : SlowTaker → Part
  | .supv => p.supvSlowTick
  | .topo => p.topoSlowTick

/-- SLOW_TICK. -/
def execSlowTick (taker : SlowTaker) (s : State) : Host.Outcome State Fault Refusal :=
  s.powered (s.withPart (s.part.slowTick taker))

/-- SHADOW_CORRUPTION. -/
def execShadowCorruption (place : Place) (bits : Word) (s : State) : Host.Outcome State Fault Refusal :=
  s.powered (s.withPart (s.part.corruptShadow place bits))

end Sys2Proof.Machine
end

