-- ==== Sys2Proof/Machine/Path.lean ====
section
/-! DEFINITION. The path controller (chapter 7): acceptance and classification of processor accesses, kept and
handed-on writes, the memory-side port and its arbiter, the journal words at the port, and the two resets. -/

namespace Sys2Proof.Machine

open Sys2Proof

/-! ### Accesses -/

/-- A full-width write. -/
def writeFull (addr : WordAddr) (data : Word) : Access :=
  { addr := addr, write := true, lanes := fullLanes, data := data }

/-- A write of some lanes. -/
def writeSome (addr : WordAddr) (lanes : Lanes) (data : Word) : Access :=
  { addr := addr, write := true, lanes := lanes, data := data }

/-- The byte address of the lowest byte of the word, as a VIOLATION record carries it (R128). -/
def violationAddr (a : Access) : Addr := BitVec.ofNat 24 (byteAddr a.addr)

/-- The completion of a write (R124). -/
def writtenBy (a : Access) : Completion := { addr := a.addr, write := true, bytes := [] }

/-- The completion of a read that PATH answers with a word: all four lanes are driven, and the processor takes the
lanes it enabled (R126). -/
def answerTo (a : Access) (w : Word) : Completion :=
  { addr := a.addr, write := false, bytes := (lanesOf fullLanes).map fun i => (i, laneByte w i) }

/-- The class of an access at the moment it is accepted (R123). -/
def State.classOf (s : State) (a : Access) : AccessClass := classify s.path.aps s.part.topo.ring a.addr

/-- The access completes at the processor side at its acceptance. -/
def State.complete (s : State) (c : Completion) : State := { s with path := { s.path with completed := some c } }

/-- The accepted access waits for the port (R124, R125). -/
def State.pass (s : State) (a : Access) : State :=
  { s with path := { s.path with flight := some { access := a, holds := false, dropped := false } } }

/-- A write kept from memory: one VIOLATION record in RUNNING, and completion at acceptance (R128). -/
def State.keep (s : State) (a : Access) (k : ViolationKind) : State :=
  (s.withPart (s.part.record s.part.tbase.ms (.violation (violationAddr a) k))).complete (writtenBy a)

/-- A write of the request window is handed on at acceptance (R129). -/
def Part.requestWrite (p : Part) (offset : Nat) (a : Access) : Part :=
  match requestWordAt offset with
  | .param n => p.paramWrite n a.lanes a.data
  | .command n => p.commandWrite n a.lanes a.data (violationAddr a)
  | .consumer => p.consumerWrite a.lanes a.data (violationAddr a)
  | .plain => p

/-- PATH accepts a write (R123 to R131). -/
def State.acceptWrite (s : State) (a : Access) : State :=
  match s.classOf a with
  | .status _ => s.keep a .statusWrite
  | .request offset => (s.withPart (s.part.requestWrite offset a)).pass a
  | .topology place =>
    if s.part.topo.mode = .unconfigured then
      (s.withPart (s.part.topologyWrite s.path.aps place a.lanes a.data)).pass a
    else s.keep a .topologyWrite
  | .ring => s.keep a .ringWrite
  | .other => s.pass a

/-- PATH accepts a read: a status word is answered from the live state, every other read goes to memory (R125,
R126). -/
def State.acceptRead (s : State) (a : Access) : State :=
  match s.classOf a with
  | .status offset => s.complete (answerTo a (statusWord s.part offset))
  | _ => s.pass a

/-- PATH accepts an access (R124). -/
def State.accept (s : State) (a : Access) : State := if a.write then s.acceptWrite a else s.acceptRead a

/-- The processor presents an access: none is accepted under CPURST (R135); with one in flight it waits on the
bus, which carries one (R124; log entry 19). -/
def State.present (s : State) (a : Access) : State :=
  if s.path.cpurst then s
  else if s.path.flight.isSome then
    if s.path.waiting.isSome then s else { s with path := { s.path with waiting := some a } }
  else s.accept a

/-- The word address of a slot's command word. -/
def State.commandAddr (s : State) (n : SlotId) : WordAddr := apertureWord s.path.aps (commandOffset n)

/-- The processor writes a command word full width (R140). -/
def State.command (s : State) (n : SlotId) (kind target token check : Byte) : State :=
  s.present (writeFull (s.commandAddr n) (commandWord kind target token check))

/-! ### The port -/

/-- The port carries no access (R132). -/
def Path.portFree (x : Path) : Bool := x.jword.isNone && !(x.flight.any Flight.holds)

/-- The port falls free with these claimants waiting: the arbiter finds them (R133). -/
def Path.fallsFree (x : Path) (access word : Bool) : Path := { x with accessWaited := access, wordWaited := word }

/-- The accepted access starts on the port. -/
def Path.startProcessor (x : Path) : Path :=
  { x.fallsFree false false with flight := x.flight.map fun f => { f with holds := true } }

/-- A journal word starts on the port; the wait count becomes 0 (R133). -/
def Path.startJournal (x : Path) (w : JournalWord) : Path :=
  { x.fallsFree false false with jword := some w, waitCount := 0 }

/-- Both claimants waited: the wait count decides (R133). -/
def Path.grantByCount (x : Path) (w : JournalWord) : Path :=
  if x.waitCount < Config.waitLimit then { x.startProcessor with waitCount := x.waitCount + 1 }
  else x.startJournal w

/-- Both claimants are there. The access is taken before a word that met the port free when it waited itself or is
first; a word is taken before an access that met the port free when it is first; otherwise the arbiter finds both
(R133, R134; log entry 34). -/
def Path.grantBoth (x : Path) (w : JournalWord) (first : Claimant) : Path :=
  if x.wordWaited = false ∧ (x.accessWaited = true ∨ first = .access) then x.startProcessor
  else if x.accessWaited = false ∧ first = .word then x.startJournal w
  else x.grantByCount w

/-- The arbiter's table (R133, R134). -/
def Path.grant (x : Path) (offer : Option JournalWord) (first : Claimant) : Path :=
  match x.flight, offer with
  | none, none => x
  | some _, none => x.startProcessor
  | none, some w => x.startJournal w
  | some _, some w => x.grantBoth w first

/-- The arbiter decides when the port is free (R133). -/
def Path.arbitrate (x : Path) (offer : Option JournalWord) (first : Claimant) : Path :=
  if x.portFree then x.grant offer first else x

/-- The word JRNL offers to the port, if any (R132). -/
def Part.offered (p : Part) : Option JournalWord := p.jrnl.offered p.topo.params.ringBase

/-- An access that arrives is presented first; then the arbiter decides (R133). -/
def State.portGrant (s : State) (arrival : Option Access) (first : Claimant) : State :=
  let t :=
    match arrival with
    | none => s
    | some a => s.present a
  { t with path := t.path.arbitrate t.part.offered first }

/-- What memory holds after the access (R125). -/
def memoryAfter (a : Access) (m : List Host.Cell) : List Host.Cell :=
  if a.write then Memory.writeAccess m a else m

/-- The completion of a passed access: a read returns what memory gives (R125). -/
def outcomeOf (a : Access) (m : List Host.Cell) : Completion :=
  if a.write then writtenBy a else { addr := a.addr, write := false, bytes := Memory.readLanes m a }

/-- The memory-side access completes; its completion goes to the processor unless CPURST dropped it (R124,
R135). -/
def State.finish (s : State) (f : Flight) : State :=
  { s with
    mem := memoryAfter f.access s.mem
    path :=
      { s.path.fallsFree false s.part.offered.isSome with
        flight := none
        completed := if f.dropped then s.path.completed else some (outcomeOf f.access s.mem) } }

/-- PATH accepts the next access, if one waits on the bus (R124). -/
def State.next (s : State) : State :=
  match s.path.waiting with
  | none => s
  | some a => if s.path.cpurst then s else ({ s with path := { s.path with waiting := none } } : State).accept a

/-- The access that holds the port completes (R124). -/
def State.accessComplete (s : State) : State :=
  match s.path.flight with
  | none => s
  | some f => if f.holds then (s.finish f).next else s

/-- The journal word that holds the port completes, and JRNL goes on: the word it offers next waits as the port falls
free (R132, R157; log entry 34). -/
def State.wordComplete (s : State) : State :=
  match s.path.jword with
  | none => s
  | some w =>
    let p := s.part.setJrnl (s.part.jrnl.wordDone s.part.topo.params.ringCode s.part.tbase.ms)
    { s with
      part := p
      path := { s.path.fallsFree s.path.flight.isSome p.offered.isSome with jword := none }
      mem := Memory.writeJournal s.mem w }

/-- The journal word that holds the port is a w0 whose completion frees the place a pending HALT record enters
(R158, R163). -/
def State.freesHaltPlace (s : State) : Bool :=
  s.path.jword.isSome && decide (s.part.jrnl.writing = some .w0) &&
    (match s.part.jrnl.halt with
     | .pending _ _ => true
     | _ => false)

/-! ### The resets -/

/-- The write that PORST cuts on the memory side, if any: its byte address and lanes (R168). -/
def Path.cutWrite (x : Path) : Option (Nat × List Nat) :=
  match x.jword, x.flight with
  | some w, _ => some (w.addr.toNat, [0, 1, 2, 3])
  | none, some f =>
    if f.holds && f.access.write then some (byteAddr f.access.addr, lanesOf f.access.lanes) else none
  | none, none => none

/-- A word whose write was cut holds what the memory device made of it: free values (R168; log entry 15). -/
def State.cutWords (s : State) : State :=
  match s.path.cutWrite with
  | none => s
  | some c => { s with mem := Memory.cutLanes s.mem s.cuts c.1 c.2, cuts := s.cuts + 1 }

/-- What PORST ends in the blocks: the drive, the counters and ticks, the record write, and every event in
flight; what else they hold is seen no more until the release replaces it (R161, R168; log entry 18). -/
def Part.abandon (p : Part) : Part :=
  { p with
    gen := Generator.powerOn p.gen.serial,
    jrnl := { p.jrnl with writing := none },
    tbase := Timebase.powerOn,
    ticks := Ticks.none,
    sent := InFlight.none }

/-- What PORST ends in PATH: an access is dropped on both sides (R168). -/
def Path.abandon (x : Path) : Path :=
  { x.fallsFree false false with porst := true, waiting := none, flight := none, jword := none }

/-- PORST is asserted (R168). -/
def State.porstOn (s : State) : State :=
  if s.path.porst then s
  else { s.cutWords with part := s.part.abandon, path := s.path.abandon }

/-- PORST is released: every block takes its power-on values together (R169). -/
def State.porstOff (s : State) (aps : BitVec 4) (levelsA levelsB : BitVec 32) : State :=
  if s.path.porst then
    { s with
      part := Part.powerOn levelsA levelsB s.part.gen.serial, path := Path.powerOn aps s.path.cpurst }
  else s

/-- PATH takes the assertion of CPURST: the access not accepted is lost, the completion of the one in flight is
dropped, the wait count is 0 (R135). -/
def Path.processorReset (x : Path) : Path :=
  { x with
    cpurst := true
    waiting := none
    waitCount := 0
    flight := x.flight.map fun f => { f with dropped := true } }

/-- CPURST is asserted; under PORST it has no further effect (R135, R168). -/
def State.cpurstOn (s : State) : State :=
  if s.path.cpurst then s
  else if s.path.porst then { s with path := { s.path with cpurst := true } }
  else { s with path := s.path.processorReset }

/-- CPURST is released (R135). -/
def State.cpurstOff (s : State) : State := { s with path := { s.path with cpurst := false } }

/-! ### Meanings -/

/-- SWEEP_RESET: kind 1. -/
def execSweepReset (n : SlotId) (target token check : Byte) (s : State) : Host.Outcome State Fault Refusal :=
  s.powered (s.command n 1#8 target token check)

/-- PREPARED_RESET: kind 2. -/
def execPreparedReset (n : SlotId) (target token check : Byte) (s : State) : Host.Outcome State Fault Refusal :=
  s.powered (s.command n 2#8 target token check)

/-- HEAD_RESTART: kind 3. -/
def execHeadRestart (n : SlotId) (target token check : Byte) (s : State) : Host.Outcome State Fault Refusal :=
  s.powered (s.command n 3#8 target token check)

/-- HEAD_TEST: kind 4. -/
def execHeadTest (n : SlotId) (target token check : Byte) (s : State) : Host.Outcome State Fault Refusal :=
  s.powered (s.command n 4#8 target token check)

/-- CANCEL: kind 5. -/
def execCancel (n : SlotId) (target token check : Byte) (s : State) : Host.Outcome State Fault Refusal :=
  s.powered (s.command n 5#8 target token check)

/-- COMMAND_NOT_A_KIND: the kind field as written. -/
def execCommandNotAKind (n : SlotId) (kind target token check : Byte) (s : State) :
    Host.Outcome State Fault Refusal :=
  s.powered (s.command n kind target token check)

/-- PARTIAL_COMMAND. -/
def execPartialCommand (n : SlotId) (lanes : Lanes) (data : Word) (s : State) :
    Host.Outcome State Fault Refusal :=
  s.powered (s.present (writeSome (s.commandAddr n) lanes data))

/-- PARAMETER_WORD_WRITE. -/
def execParameterWordWrite (n : SlotId) (lanes : Lanes) (data : Word) (s : State) :
    Host.Outcome State Fault Refusal :=
  s.powered (s.present (writeSome (apertureWord s.path.aps (paramOffset n)) lanes data))

/-- CONSUMER_WRITE. -/
def execConsumerWrite (value : Word) (s : State) : Host.Outcome State Fault Refusal :=
  s.powered (s.present (writeFull (apertureWord s.path.aps consumerOffset) value))

/-- TOPOLOGY_WRITE. -/
def execTopologyWrite (place : Place) (lanes : Lanes) (data : Word) (s : State) :
    Host.Outcome State Fault Refusal :=
  s.powered (s.present (writeSome (apertureWord s.path.aps (topologyOffset place)) lanes data))

/-- COMMIT. -/
def execCommit (check : BitVec 16) (s : State) : Host.Outcome State Fault Refusal :=
  s.powered (s.present (writeFull (apertureWord s.path.aps (topologyOffset commitPlace)) (commitWord check)))

/-- KEPT_WRITE. -/
def execKeptWrite (addr : WordAddr) (lanes : Lanes) (data : Word) (s : State) :
    Host.Outcome State Fault Refusal :=
  s.powered (s.present (writeSome addr lanes data))

/-- PORT_GRANT. -/
def execPortGrant (arrival : Arrival) (s : State) : Host.Outcome State Fault Refusal :=
  s.powered (s.portGrant arrival.access arrival.first)

/-- MEMORY_ACCESS_COMPLETE. -/
def execMemoryAccessComplete (s : State) : Host.Outcome State Fault Refusal := s.powered s.accessComplete

/-- RECORD_WRITE_START (R157). -/
def execRecordWriteStart (s : State) : Host.Outcome State Fault Refusal :=
  s.powered (s.withPart (s.part.setJrnl (s.part.jrnl.startWrite s.part.topo.params.ringCode)))

/-- JOURNAL_WORD_COMPLETE. -/
def execJournalWordComplete (s : State) : Host.Outcome State Fault Refusal := s.powered s.wordComplete

/-- HALT_PENDING_ENTRY: the completion in hand, when it frees the place for a pending HALT record (R163). -/
def execHaltPendingEntry (s : State) : Host.Outcome State Fault Refusal :=
  s.powered (if s.freesHaltPlace then s.wordComplete else s)

/-- PORST_ASSERT. -/
def execPorstAssert (s : State) : Host.Outcome State Fault Refusal := .next s.porstOn

/-- PORST_RELEASE. -/
def execPorstRelease (aps : BitVec 4) (levelsA levelsB : BitVec 32) (s : State) :
    Host.Outcome State Fault Refusal :=
  .next (s.porstOff aps levelsA levelsB)

/-- CPURST_ASSERT. -/
def execCpurstAssert (s : State) : Host.Outcome State Fault Refusal := .next s.cpurstOn

/-- CPURST_RELEASE. -/
def execCpurstRelease (s : State) : Host.Outcome State Fault Refusal := .next s.cpurstOff

end Sys2Proof.Machine
end

