-- ==== Sys2Proof/Machine/Hdec.lean ====
section
/-! DEFINITION. The head decoders (chapter 1): edges, traverses, dwell, UNSETTLED, OFF, the shadow decoding of a
head in TEST, and the taking of a recovery report. -/

namespace Sys2Proof.Machine

open Sys2Proof

/-! ### Time of an edge -/

/-- Reference periods pass up to the one named, within the present millisecond; the µs counter rises by one
every 8 of them (R165). Time does not run back, and the ms tick is not passed. -/
def Timebase.advanceTo (t : Timebase) (period : Nat) : Timebase :=
  if t.period ≤ period ∧ period < Config.periodsPerMs then
    { t with
      us := t.us + BitVec.ofNat 32 (period / Config.periodsPerUs - t.period / Config.periodsPerUs)
      period := period }
  else t

/-- An edge sampled at `stamp` comes less than `limit` µs after this system's last edge (R2). -/
def Sensor.within (x : Sensor) (stamp : Word) (limit : Nat) : Bool :=
  decide (x.edgeAge ≤ 1) && decide ((stamp - x.edgeTime).toNat < limit)

/-- The system after an edge: new level, stamp, age 0 (R1, R2). -/
def Sensor.edge (d : EdgeDir) (stamp : Word) : Sensor := { damped := d.damped, edgeTime := stamp, edgeAge := 0 }

/-! ### Traverses -/

/-- The table of R7; `none` stands for an edge that cannot arise in the phase. -/
def traverseNext : Phase → System → EdgeDir → Option Phase
  | .arrA, .sysA, .falling => some .idle
  | .arrA, .sysB, .rising => some .ovrA
  | .ovrA, .sysA, .falling => some .depA
  | .ovrA, .sysB, .falling => some .arrA
  | .depA, .sysA, .rising => some .ovrA
  | .depA, .sysB, .falling => some .idle
  | .arrB, .sysA, .rising => some .ovrB
  | .arrB, .sysB, .falling => some .idle
  | .ovrB, .sysA, .falling => some .arrB
  | .ovrB, .sysB, .falling => some .depB
  | .depB, .sysA, .falling => some .idle
  | .depB, .sysB, .rising => some .ovrB
  | _, _, _ => none

/-- The phase a rising edge leads to from IDLE (R6). -/
def arrival : System → Phase
  | .sysA => .arrA
  | .sysB => .arrB

/-- The direction of the wheel's arrival, which the phase names (R9). -/
def Phase.arrivalDirection : Phase → Direction
  | .arrB | .ovrB | .depB => .bToA
  | _ => .aToB

/-- What an edge in a traverse gives: the next phase, the suspect mark, whether a separation fault is new
(R8), and the outcome when the traverse ends (R9). -/
structure Crossing where
  phase : Phase
  suspect : Bool
  fault : Bool
  outcome : Option (PassageOutcome × Direction)
  deriving DecidableEq, Repr

/-- The outcome of a traverse that ends (R9): `x` is the head before the edge, `ph` the phase left. -/
def endOutcome (minPulse : Nat) (x : HeadDecoder) (ph : Phase) (suspect : Bool) (y : System) (stamp : Word) :
    PassageOutcome × Direction :=
  if suspect then (.suspect, ph.arrivalDirection)
  else
    match ph with
    | .depA => (.counted, .aToB)
    | .depB => (.counted, .bToA)
    | _ =>
      if (x.sensor y).within stamp minPulse then (.glitch, ph.arrivalDirection)
      else (.retreat, ph.arrivalDirection)

/-- One edge in a traverse: the separation test against the other system's last edge, then the transition
(R7, R8). `x` is the head before the edge. -/
def crossing (c : Params) (x : HeadDecoder) (ph : Phase) (suspect : Bool) (y : System) (d : EdgeDir)
    (stamp : Word) : Crossing :=
  let fault := (x.sensor y.other).within stamp c.minSep
  let marked := suspect || fault
  match traverseNext ph y d with
  | none => { phase := ph, suspect := suspect, fault := false, outcome := none }
  | some .idle =>
    { phase := .idle, suspect := marked, fault := fault && !suspect,
      outcome := some (endOutcome c.minPulse x ph marked y stamp) }
  | some next => { phase := next, suspect := marked, fault := fault && !suspect, outcome := none }

/-- A decoding head leaves IDLE: suspect clear, dwell start, movement notice (R6). -/
def Part.leaveIdle (p : Part) (h : HeadId) (y : System) : Part :=
  (p.setHdec h
    { p.hdec[h] with phase := arrival y, suspect := false, dwellStart := some p.tbase.ms }).sendScnt (.movement h)

/-- The outcome goes to the receivers marked for it (R10). -/
def Part.handOn (p : Part) (h : HeadId) (o : PassageOutcome × Direction) : Part :=
  match o.1 with
  | .counted => (p.sendScnt (.passage h o.2)).sendSupv (.cleanPassage h)
  | .suspect => p.sendScnt (.suspectEnd h)
  | .glitch => p.sendSupv (.glitch h)
  | .retreat => p

/-- A PASSAGE record when the passage-record flag is set (R11). -/
def Part.passageRecord (p : Part) (h : HeadId) (o : PassageOutcome × Direction) : Part :=
  if p.topo.params.passageRecords then p.record p.tbase.ms (.passage h o.2 o.1) else p

/-- The end of a traverse: IDLE, dwell start absent, standing ended first, then the PASSAGE record and the
outcome (R9, R10, R11, R14). -/
def Part.endTraverse (p : Part) (h : HeadId) (suspect : Bool) (o : PassageOutcome × Direction) : Part :=
  (((p.setHdec h
      { p.hdec[h] with phase := .idle, suspect := suspect, dwellStart := none, standing := false }).standingEnd
      p.tbase.ms h p.hdec[h].standing).passageRecord h o).handOn h o

/-- The first separation fault of a traverse is reported (R8). -/
def Part.separationReport (p : Part) (h : HeadId) (fault : Bool) : Part :=
  if fault then p.sendSupv (.separationFault h) else p

/-- An edge of a decoding head in a traverse phase; `x` is the head before the edge (R7 to R9). -/
def Part.traverseEdge (p : Part) (h : HeadId) (x : HeadDecoder) (y : System) (d : EdgeDir) : Part :=
  let c := crossing p.topo.params x x.phase x.suspect y d p.tbase.us
  match c.outcome with
  | some o => (p.separationReport h c.fault).endTraverse h c.suspect o
  | none => (p.setHdec h { p.hdec[h] with phase := c.phase, suspect := c.suspect }).separationReport h c.fault

/-! ### The other phases -/

/-- TGEN holds a release allowance for the head (R22, R104). -/
def Part.allowance (p : Part) (h : HeadId) : Bool :=
  decide (p.gen.state = .releasing) && decide (p.gen.target = some h)

/-- A decoding head in UNSETTLED takes an edge: one notice to SCNT, and IDLE when the edge leaves both systems
undamped (R16). -/
def Part.unsettledEdge (p : Part) (h : HeadId) : Part :=
  let q := p.sendScnt (if p.allowance h then .movement h else .unsettledChange h)
  if p.hdec[h].free then
    (q.setHdec h { p.hdec[h] with phase := .idle, dwellStart := none, standing := false }).standingEnd
      p.tbase.ms h p.hdec[h].standing
  else q

/-- An edge at a head in OFF: a movement notice from a used head in RUNNING (R18). -/
def Part.offEdge (p : Part) (h : HeadId) : Part :=
  if p.running && p.used h then p.sendScnt (.movement h) else p

/-- What the shadow decoding gives TGEN (R20, R99). -/
def Generator.shadow (g : Generator) (c : Crossing) : Generator :=
  { g with
    outcomes := g.outcomes ++ c.outcome.toList
    shadowSeparation := g.shadowSeparation || c.fault }

/-- An edge at a head in TEST is decoded in the shadow phase; `x` is the head before the edge (R20). -/
def Part.shadowEdge (p : Part) (h : HeadId) (x : HeadDecoder) (y : System) (d : EdgeDir) : Part :=
  match x.shadowPhase with
  | none => p
  | some .idle =>
    match d with
    | .rising => p.setHdec h { p.hdec[h] with shadowPhase := some (arrival y), shadowSuspect := false }
    | .falling => p
  | some ph =>
    let c := crossing p.topo.params x ph x.shadowSuspect y d p.tbase.us
    (p.setHdec h { p.hdec[h] with shadowPhase := some c.phase, shadowSuspect := c.suspect }).setGen
      (p.gen.shadow c)

/-- Every edge of a head in TEST, or under a release allowance, is copied to TGEN (R20, R22). -/
def Part.copyEdge (p : Part) (h : HeadId) (y : System) (d : EdgeDir) : Part :=
  if decide (p.hdec[h].phase = .test) || p.allowance h then p.sendCopy { h := h, y := y, d := d } else p

/-- The handling of an edge by the head's phase (R5); `p` holds the system already updated, `x` is the head
before the edge. -/
def Part.handleEdge (p : Part) (h : HeadId) (x : HeadDecoder) (y : System) (d : EdgeDir) : Part :=
  match x.phase with
  | .off => p.offEdge h
  | .test => p.shadowEdge h x y d
  | .unsettled => if p.decoding h then p.unsettledEdge h else p
  | .idle =>
    match d with
    | .rising => if p.decoding h then p.leaveIdle h y else p
    | .falling => p
  | _ => if p.decoding h then p.traverseEdge h x y d else p

/-- HDEC takes an edge: level, last edge time and edge age first, then the copy to TGEN and the handling by
phase (R1, R2, R5). -/
def Part.takeEdge (p : Part) (h : HeadId) (y : System) (d : EdgeDir) : Part :=
  ((p.setHdec h (p.hdec[h].setSensor y (Sensor.edge d p.tbase.us))).copyEdge h y d).handleEdge h p.hdec[h] y d

/-- An edge is a change of level: a rising edge of a damped system, or a falling edge of an undamped one, is
none (R1). -/
def Part.edgeAt (p : Part) (h : HeadId) (y : System) (d : EdgeDir) (period : Nat) : Part :=
  if (p.hdec[h].sensor y).damped = d.damped then p
  else (p.setTbase (p.tbase.advanceTo period)).takeEdge h y d

/-! ### Dwell -/

/-- The dwell limit is reached at the ms counter as it stands (R13). -/
def HeadDecoder.dwellReached (x : HeadDecoder) (limit : Nat) (ms : Word) : Bool :=
  match x.dwellStart with
  | none => false
  | some t => !x.standing && decide (limit * 1000 ≤ (ms - t).toNat)

/-- HDEC examines one head at an ms tick (R13). -/
def Part.examineDwell (p : Part) (h : HeadId) : Part :=
  if p.hdec[h].dwellReached p.topo.params.dwellLimit p.tbase.ms then
    (p.setHdec h { p.hdec[h] with standing := true }).record p.tbase.ms (.standing h false)
  else p

/-- HDEC examines every head (R13). -/
def Part.examineAll (p : Part) : Part := allHeads.foldl (fun q h => q.examineDwell h) p

/-- On every ms tick the edge ages rise by one and stop at 15 (R2). -/
def Sensor.older (x : Sensor) : Sensor := { x with edgeAge := min 15 (x.edgeAge + 1) }

/-- Both systems of a head grow older by one ms tick (R2). -/
def HeadDecoder.older (x : HeadDecoder) : HeadDecoder :=
  { x with sensorA := x.sensorA.older, sensorB := x.sensorB.older }

/-! ### Recovery -/

/-- HDEC takes SUPV's report that a recovery is complete: the head leaves OFF by its levels, unless the mode is
no longer RUNNING or SUPV shows the head out of service again (R18, R84). -/
def Part.takeRecovery (p : Part) (h : HeadId) : Part :=
  if p.running && p.supv[h].health.inService && decide (p.hdec[h].phase = .off) then
    p.setHdec h (p.hdec[h].settleByLevels p.tbase.ms)
  else p

/-! ### Meanings -/

/-- EDGE. -/
def execEdge (h : HeadId) (y : System) (d : EdgeDir) (period : Nat) (s : State) :
    Host.Outcome State Fault Refusal :=
  s.powered (s.withPart (s.part.edgeAt h y d period))

/-- DWELL_LIMIT_REACHED. -/
def execDwellLimitReached (h : HeadId) (s : State) : Host.Outcome State Fault Refusal :=
  s.powered (s.withPart (s.part.examineDwell h))

/-- RECOVERY_REPORT: taken when it is in flight. -/
def execRecoveryReport (h : HeadId) (s : State) : Host.Outcome State Fault Refusal :=
  s.powered
    (if h ∈ s.part.sent.recovered then s.withPart ((s.part.tookRecovered h).takeRecovery h) else s)

end Sys2Proof.Machine
end

