-- ==== Sys2Proof/Machine/Tbase.lean ====
section
/-! DEFINITION. The timebase (chapter 10): the passing of one reference period, and the ms tick with all it gives. -/

namespace Sys2Proof.Machine

open Sys2Proof

/-- The counters at an ms tick: the rest of the millisecond has passed (R165). -/
def Timebase.tick (t : Timebase) : Timebase :=
  { us := t.us + BitVec.ofNat 32 (1000 - t.period / Config.periodsPerUs), ms := t.ms + 1#32, period := 0 }

/-- One reference period within a millisecond: the µs counter rises every 8 (R165). -/
def Timebase.count (t : Timebase) : Timebase :=
  { t with
    us := if (t.period + 1) % Config.periodsPerUs = 0 then t.us + 1#32 else t.us
    period := t.period + 1 }

/-- A tick given when the ms counter reaches a multiple of its period (R166). -/
def giveAt (period : Nat) (ms : Word) (l : List Word) : List Word :=
  if ms.toNat % period = 0 then l ++ [ms] else l

/-- The supervision, settle and slow ticks that fall at an ms counter value (R166). -/
def Ticks.give (t : Ticks) (ms : Word) : Ticks :=
  { t with
    supv := giveAt 8 ms t.supv
    scnt := giveAt 64 ms t.scnt
    slowSupv := giveAt 512 ms t.slowSupv
    slowTopo := giveAt 512 ms t.slowTopo }

/-- What the blocks have left of the last ms tick is taken before the next is given (R166; log entry 5). -/
def Part.lastTickTaken (p : Part) : Part := p.examineAll.takePendingTick

/-- The ms tick is given: the counters, the edge ages, the further ticks that fall with it, and TGEN's tick
(R2, R165, R166). -/
def Part.giveMsTick (p : Part) : Part :=
  let t := p.tbase.tick
  { p with
    tbase := t,
    hdec := p.hdec.map HeadDecoder.older,
    ticks := p.ticks.give t.ms,
    gen := p.gen.giveTick t.ms p.topo.params.stepTime }

/-- The rest of the present millisecond passes, up to and with the ms tick. -/
def Part.msTick (p : Part) : Part := p.lastTickTaken.giveMsTick

/-- One reference period passes (R165). -/
def Part.idlePeriod (p : Part) : Part :=
  if p.tbase.period + 1 < Config.periodsPerMs then p.setTbase p.tbase.count else p.msTick

/-! ### Meanings -/

/-- MS_TICK. -/
def execMsTick (s : State) : Host.Outcome State Fault Refusal := s.powered (s.withPart s.part.msTick)

/-- An empty queue: one reference period passes, none while PORST holds the counters (R165, R168; log
entry 3). -/
def State.idle (s : State) : State := if s.path.porst then s else s.withPart s.part.idlePeriod

end Sys2Proof.Machine
end

