-- ==== Sys2Proof/Machine/Dispatch.lean ====
section
/-! DEFINITION. One arm for each command. -/

namespace Sys2Proof.Machine

open Sys2Proof

/-- The effect of a command on everything but the queue. -/
def exec (i : Instr) (s : State) : Host.Outcome State Fault Refusal :=
  match i with
  | .edge h y d period => Sys2Proof.Machine.execEdge h y d period s
  | .msTick => Sys2Proof.Machine.execMsTick s
  | .dwellLimitReached h => Sys2Proof.Machine.execDwellLimitReached h s
  | .supervisionTick h ampA ampB => Sys2Proof.Machine.execSupervisionTick h ampA ampB s
  | .recoveryComplete h ampA ampB => Sys2Proof.Machine.execRecoveryComplete h ampA ampB s
  | .recoveryReport h => Sys2Proof.Machine.execRecoveryReport h s
  | .settleTick => Sys2Proof.Machine.execSettleTick s
  | .settleWaitEnd sec => Sys2Proof.Machine.execSettleWaitEnd sec s
  | .slowTick taker => Sys2Proof.Machine.execSlowTick taker s
  | .restartTimeout h => Sys2Proof.Machine.execRestartTimeout h s
  | .shadowCorruption place bits => Sys2Proof.Machine.execShadowCorruption place bits s
  | .passageEvent h d => Sys2Proof.Machine.execPassageEvent h d s
  | .suspectEndEvent h => Sys2Proof.Machine.execSuspectEndEvent h s
  | .movementNotice h => Sys2Proof.Machine.execMovementNotice h s
  | .unsettledChangeNotice h => Sys2Proof.Machine.execUnsettledChangeNotice h s
  | .testAbortNotice h => Sys2Proof.Machine.execTestAbortNotice h s
  | .separationFaultReport h => Sys2Proof.Machine.execSeparationFaultReport h s
  | .glitchReport h => Sys2Proof.Machine.execGlitchReport h s
  | .cleanPassageReport h => Sys2Proof.Machine.execCleanPassageReport h s
  | .testPassedReport h => Sys2Proof.Machine.execTestPassedReport h s
  | .testFailedReport h => Sys2Proof.Machine.execTestFailedReport h s
  | .patternStart => Sys2Proof.Machine.execPatternStart s
  | .followWindowClose => Sys2Proof.Machine.execFollowWindowClose s
  | .stepDeadline => Sys2Proof.Machine.execStepDeadline s
  | .midStepSample => Sys2Proof.Machine.execMidStepSample s
  | .sampleRequest ampA ampB => Sys2Proof.Machine.execSampleRequest ampA ampB s
  | .midSampleAnswer => Sys2Proof.Machine.execMidSampleAnswer s
  | .edgeCopy => Sys2Proof.Machine.execEdgeCopy s
  | .releaseTimeEnd => Sys2Proof.Machine.execReleaseTimeEnd s
  | .sweepReset n target token check => Sys2Proof.Machine.execSweepReset n target token check s
  | .preparedReset n target token check => Sys2Proof.Machine.execPreparedReset n target token check s
  | .headRestart n target token check => Sys2Proof.Machine.execHeadRestart n target token check s
  | .headTest n target token check => Sys2Proof.Machine.execHeadTest n target token check s
  | .cancel n target token check => Sys2Proof.Machine.execCancel n target token check s
  | .partialCommand n lanes data => Sys2Proof.Machine.execPartialCommand n lanes data s
  | .parameterWordWrite n lanes data => Sys2Proof.Machine.execParameterWordWrite n lanes data s
  | .consumerWrite value => Sys2Proof.Machine.execConsumerWrite value s
  | .topologyWrite place lanes data => Sys2Proof.Machine.execTopologyWrite place lanes data s
  | .commit check => Sys2Proof.Machine.execCommit check s
  | .keptWrite addr lanes data => Sys2Proof.Machine.execKeptWrite addr lanes data s
  | .portGrant arrival => Sys2Proof.Machine.execPortGrant arrival s
  | .memoryAccessComplete => Sys2Proof.Machine.execMemoryAccessComplete s
  | .recordWriteStart => Sys2Proof.Machine.execRecordWriteStart s
  | .journalWordComplete => Sys2Proof.Machine.execJournalWordComplete s
  | .haltPendingEntry => Sys2Proof.Machine.execHaltPendingEntry s
  | .porstAssert => Sys2Proof.Machine.execPorstAssert s
  | .porstRelease aps levelsA levelsB => Sys2Proof.Machine.execPorstRelease aps levelsA levelsB s
  | .cpurstAssert => Sys2Proof.Machine.execCpurstAssert s
  | .cpurstRelease => Sys2Proof.Machine.execCpurstRelease s
  | .commandNotAKind n kind target token check => Sys2Proof.Machine.execCommandNotAKind n kind target token check s

end Sys2Proof.Machine
end

