-- ==== Sys2Proof/Safety.lean ====
section
/-! DEFINITION. What must hold of every state a run reaches, as predicates of the state, and the situations the
statements speak of. -/

namespace Sys2Proof.Machine

open Sys2Proof

/-! ### Heads -/

/-- The levels of A and B that each phase goes with (R4). -/
def Phase.levels : Phase → Bool → Bool → Bool
  | .idle, a, b => !a && !b
  | .arrA, a, b => a && !b
  | .ovrA, a, b => a && b
  | .depA, a, b => !a && b
  | .arrB, a, b => !a && b
  | .ovrB, a, b => a && b
  | .depB, a, b => a && !b
  | .unsettled, a, b => a || b
  | .test, _, _ => true
  | .off, _, _ => true

/-- The dwell phases (R12). -/
def Phase.isDwell : Phase → Bool
  | .unsettled => true
  | ph => ph.isTraverse

/-- One head: the levels agree with the phase (R4); a head out of OFF is used and in service in RUNNING (R5,
R17); dwell start and standing go with the dwell phases (R12, R13); the shadow decoding goes with TEST and its
phase agrees with the levels too (R19 to R21). -/
def HeadOk (p : Part) (h : HeadId) : Prop :=
  p.hdec[h].phase.levels p.hdec[h].sensorA.damped p.hdec[h].sensorB.damped = true ∧
  (p.hdec[h].phase ≠ .off → p.running = true ∧ p.used h = true ∧ p.supv[h].health.inService = true) ∧
  (p.hdec[h].dwellStart.isSome = p.hdec[h].phase.isDwell) ∧
  (p.hdec[h].standing = true → p.hdec[h].phase.isDwell = true) ∧
  (p.hdec[h].shadowPhase.isSome = decide (p.hdec[h].phase = .test)) ∧
  (∀ ph, p.hdec[h].shadowPhase = some ph →
    ph.levels p.hdec[h].sensorA.damped p.hdec[h].sensorB.damped = true ∧ (ph = .idle ∨ ph.isTraverse = true)) ∧
  (p.hdec[h].phase = .test → p.gen.state = .running ∧ p.gen.target = some h)

/-- The levels a running test drives go with its step, and no other state drives (R92, R95). -/
def Generator.drivesStep (g : Generator) : Prop :=
  (g.state ≠ .running → g.expectA = false ∧ g.expectB = false) ∧
  (g.state = .running →
    g.step ≤ 4 ∧ ∃ d : Direction, g.direction = some d ∧
      (g.expectA, g.expectB) =
        (match g.step, d with
         | 1, .aToB => (true, false)
         | 1, .bToA => (false, true)
         | 2, _ => (true, true)
         | 3, .aToB => (false, true)
         | 3, .bToA => (true, false)
         | _, _ => (false, false)))

/-- All heads; a running test has its head in TEST (R94); in RUNNING a head with a health is used (R110); a restart
slot goes with RECOVERING (R82); the drive goes with the step (R95). -/
def HeadsOk (p : Part) : Prop :=
  (∀ h : HeadId, HeadOk p h) ∧
  (p.gen.state = .running → ∃ h : HeadId, p.gen.target = some h ∧ p.hdec[h].phase = .test) ∧
  (p.running = true → ∀ h : HeadId, p.supv[h].health ≠ .unused → p.used h = true) ∧
  (∀ h : HeadId, p.supv[h].restartSlot ≠ none → p.supv[h].health = .recovering) ∧
  p.gen.drivesStep

/-! ### Health -/

/-- The score goes with the health state (R76), the recovery items with RECOVERING alone (R80, R84 to R86). -/
def HeadHealth.agrees (v : HeadHealth) : Prop :=
  (match v.health with
   | .unused => v.score = 0
   | .healthy => v.score < 48
   | .marginal => 32 ≤ v.score ∧ v.score ≤ 111
   | .degraded => 96 ≤ v.score ∧ v.score ≤ 223
   | .failed => 224 ≤ v.score ∧ v.score ≤ 255
   | .recovering => 224 ≤ v.score ∧ v.score ≤ 255) ∧
  v.quiet < 250 ∧
  (v.health ≠ .recovering →
    v.quiet = 0 ∧ v.restartCount = 0 ∧ v.refTimes = none ∧ v.restartSlot = none)

/-- Every head's score goes with its health. -/
def HealthOk (p : Part) : Prop := ∀ h : HeadId, p.supv[h].agrees

/-! ### Sections -/

/-- The values a section record holds in each state (R29). -/
def SectionRec.fits (x : SectionRec) : Prop :=
  match x.state with
  | .unused => x.count = 0 ∧ x.cause = none ∧ x.moved = false ∧ x.slot = none
  | .disturbed => x.count = 0 ∧ x.cause ≠ none ∧ x.slot = none
  | .sweepWait => x.count = 0 ∧ x.cause = none ∧ x.moved = false ∧ x.slot ≠ none
  | .sweeping => 1 ≤ x.count ∧ x.count ≤ 1023 ∧ x.cause = none ∧ x.moved = false ∧ x.slot ≠ none
  | .occupied => 1 ≤ x.count ∧ x.count ≤ 1023 ∧ x.cause = none ∧ x.moved = false ∧ x.slot = none
  | .settling => x.count = 0 ∧ x.cause = none ∧ x.moved = false
  | .clear => x.count = 0 ∧ x.cause = none ∧ x.moved = false ∧ x.slot = none

/-- Every section record fits its state. -/
def SectionsOk (p : Part) : Prop := ∀ i : SectionId, p.scnt[i].fits

/-- The section vouches for a count or for being free (R29). -/
def SectionState.inProof : SectionState → Bool
  | .unused | .disturbed => false
  | _ => true

/-- The health of a head that counts nothing (R29). -/
def Health.outOfService : Health → Bool
  | .failed | .recovering => true
  | _ => false

/-- No section vouches for its count while a head that bounds it is FAILED or RECOVERING (R29, R44); the
bounding-head lists name heads beside the section (R28), and a restart slot goes with RECOVERING (R82). -/
def ProofOk (p : Part) : Prop :=
  (∀ (i : SectionId) (e : HeadId × Side), e ∈ p.scnt[i].bounding →
    p.scnt[i].state.inProof = true → p.supv[e.1].health.outOfService = false) ∧
  (∀ (i : SectionId) (e : HeadId × Side), e ∈ p.scnt[i].bounding → i ∈ p.adjacent e.1) ∧
  (∀ h : HeadId, p.supv[h].restartSlot ≠ none → p.supv[h].health = .recovering)

/-! ### Slots -/

/-- Slot n carries the request of a kind on an object and is in progress (R138). -/
def Slot.carries (x : Slot) (kind : Byte) (object : Nat) : Prop :=
  x.busy = true ∧ x.kind = kind ∧ x.target.toNat = object

/-- A slot in progress and the object it names belong together: a section in a sweep, a head in a restart, the
generator in a test (R57, R82, R94, R144 to R148); outside RUNNING no slot is in progress (R141, R151). -/
def SlotsOk (p : Part) : Prop :=
  (p.topo.mode ≠ .running → (∀ n : SlotId, p.slots[n].busy = false) ∧ p.gen.slot = none) ∧
  (p.topo.mode = .running →
    (∀ (i : SectionId) (n : SlotId), p.scnt[i].slot = some n → p.slots[n].carries 1#8 i.val) ∧
    (∀ (h : HeadId) (n : SlotId), p.supv[h].restartSlot = some n → p.slots[n].carries 3#8 h.val) ∧
    (∀ n : SlotId, p.gen.slot = some n → p.gen.state = .running ∧
      ∃ h : HeadId, p.gen.target = some h ∧ p.slots[n].carries 4#8 h.val) ∧
    (∀ n : SlotId, p.slots[n].busy = true →
      (∃ i : SectionId, p.slots[n].carries 1#8 i.val ∧ p.scnt[i].slot = some n) ∨
      (∃ h : HeadId, p.slots[n].carries 3#8 h.val ∧ p.supv[h].restartSlot = some n) ∨
      (p.slots[n].kind = 4#8 ∧ p.gen.slot = some n)))

/-! ### Memory, shadow and committed topology -/

/-- What the nine checks of an accepted commit leave true of the parameters (R113, R114), and the bounding-head lists and the
ring region made from them (R28, R131). -/
def TopologyOk (p : Part) : Prop :=
  (∀ (h : HeadId) (i : SectionId), (p.headEntry h).sideA = some i → (p.headEntry h).sideB ≠ some i) ∧
  (p.topo.mode = .unconfigured → p.topo.ring = none) ∧
  (p.topo.mode ≠ .unconfigured →
    p.topo.params.badWord = none ∧ 4 ≤ p.topo.params.ringCode ∧ p.topo.params.ringCode ≤ 10 ∧
    p.topo.params.ringBase.toNat % (16 * 2 ^ p.topo.params.ringCode) = 0 ∧
    p.topo.ring = some { base := p.topo.params.ringBase.toNat, size := 16 * 2 ^ p.topo.params.ringCode } ∧
    (∀ h : HeadId, ∀ i ∈ p.adjacent h, (p.sectionEntry i).inUse = true) ∧
    (∀ i : SectionId, (p.sectionEntry i).inUse = true →
      p.scnt[i].bounding = p.topo.params.bounding i ∧ 1 ≤ p.scnt[i].bounding.length ∧
      p.scnt[i].bounding.length ≤ 8 ∧ (p.sectionEntry i).settle ≤ 15))

/-- The RAM and the shadow keep their canonical form, the committed topology what its checks established. -/
def StoresOk (s : State) : Prop := Memory.wf s.mem ∧ Shadow.wf s.part.topo.shadow ∧ TopologyOk s.part

/-! ### Journal and port -/

/-- The sequence numbers of the queue rise by one up to the number before the next (R156). -/
def Journal.seqsRise (j : Journal) : Prop :=
  ∀ (n : Nat) (h : n < j.queue.length), j.queue[n].seq + BitVec.ofNat 16 (j.queue.length - n) = j.nextSeq

/-- The queue holds at most 16 records with rising numbers, the dropped count stops at 65535, the indices name ring
places, a record in writing is in the queue; before a commit nothing is active, in RUNNING JRNL is active and holds no
HALT record (R154 to R163). -/
def JournalOk (p : Part) : Prop :=
  p.jrnl.queue.length ≤ 16 ∧ p.jrnl.dropped ≤ 65535 ∧
  p.jrnl.producer < 2 ^ p.topo.params.ringCode ∧ p.jrnl.consumer < 2 ^ p.topo.params.ringCode ∧
  p.jrnl.seqsRise ∧ (p.jrnl.writing ≠ none → p.jrnl.queue ≠ []) ∧
  (p.topo.mode = .unconfigured → p.jrnl.active = false ∧ p.jrnl.writing = none) ∧
  (p.topo.mode = .running →
    p.jrnl.active = true ∧ p.jrnl.halt = .none ∧ ∀ r ∈ p.jrnl.queue, r.detail.isHalt = false)

/-- The port carries one access at a time (R132); the journal word on it is the one JRNL offers (R157); the wait
count stops at 16 (R133). -/
def PortOk (s : State) : Prop :=
  (∀ w, s.path.jword = some w →
    s.part.jrnl.offered s.part.topo.params.ringBase = some w ∧ s.path.flight.any Flight.holds = false) ∧
  s.path.waitCount ≤ 16

/-! ### Time -/

/-- The counters run from the same periods (R165), and every tick given fell on a multiple of its period (R166). -/
def TimeOk (p : Part) : Prop :=
  p.tbase.period < 8000 ∧ p.tbase.us = p.tbase.ms * 1000#32 + BitVec.ofNat 32 (p.tbase.period / 8) ∧
  (∀ v ∈ p.ticks.supv, v.toNat % 8 = 0) ∧ (∀ v ∈ p.ticks.scnt, v.toNat % 64 = 0) ∧
  (∀ v ∈ p.ticks.slowSupv, v.toNat % 512 = 0) ∧ (∀ v ∈ p.ticks.slowTopo, v.toNat % 512 = 0)

/-! ### Situations -/

/-- The part works: PORST is released. -/
abbrev State.up (s : State) : Prop := s.path.porst = false

/-- The part counts: PORST is released, the mode is RUNNING and JRNL is active (R162). -/
abbrev State.counting (s : State) : Prop := s.up ∧ s.part.topo.mode = .running ∧ s.part.jrnl.active = true

/-- PATH accepts an access that is presented: neither reset line is asserted and no access is in flight (R124,
R135). -/
abbrev State.open_ (s : State) : Prop := s.up ∧ s.path.cpurst = false ∧ s.path.flight = none

/-- The journal after it has taken a record now (R154 to R157). -/
def Part.journalAfter (p : Part) (now : Word) (d : Detail) : Journal := p.jrnl.take p.topo.params.ringCode now d

/-- The journal after the SECTION record of an update, which a change of state alone gives (R31). -/
def Journal.afterSection (j : Journal) (k : Nat) (now : Word) (i : SectionId) (old new : SectionRec) : Journal :=
  if old.state = new.state then j else j.take k now (.section_ i old.state new.state new.count new.cause)

/-- A command word has been taken: the blocks as `p` gives, and the write on its way to memory (R129). -/
def State.commandTaken (s : State) (n : SlotId) (kind target token check : Byte) (p : Part) : State :=
  (s.withPart p).pass (writeFull (s.commandAddr n) (commandWord kind target token check))

/-- A command word has been refused at step 4 or later: slot REFUSED with the code, one REQUEST record (R141,
R149). -/
def State.refusedWith (s : State) (n : SlotId) (kind target token check : Byte) (r : Result) : State :=
  s.commandTaken n kind target token check
    ((s.part.setSlot n
      { s.part.slots[n] with
        state := .refused, kind := kind, target := target, token := token, result := some r }).record
      s.part.tbase.ms (.request n kind target token r))

/-- The command that writes a command word of a kind (rows SWEEP_RESET to CANCEL and COMMAND_NOT_A_KIND). -/
def requestOf (kind : Byte) (n : SlotId) (target token check : Byte) : Instr :=
  if kind = 1#8 then .sweepReset n target token check
  else if kind = 2#8 then .preparedReset n target token check
  else if kind = 3#8 then .headRestart n target token check
  else if kind = 4#8 then .headTest n target token check
  else if kind = 5#8 then .cancel n target token check
  else .commandNotAKind n kind target token check

/-- The target is one step 7 accepts (R143). -/
abbrev Part.serves (p : Part) (n : SlotId) (kind target : Byte) : Prop :=
  if kind.toNat ≤ 2 then ∃ i : SectionId, target.toNat = i.val ∧ (p.sectionEntry i).inUse = true
  else if kind.toNat ≤ 4 then ∃ h : HeadId, target.toNat = h.val ∧ p.used h = true
  else target.toNat < 8 ∧ target.toNat ≠ n.val

/-- Another slot in progress names the same object (R144). -/
abbrev Part.namedElsewhere (p : Part) (n : SlotId) (kind target : Byte) : Prop :=
  ∃ m : SlotId, m ≠ n ∧ p.slots[m].names (objectOfKind kind.toNat) target = true

/-- A request passes steps 1 to 8 (R141). -/
abbrev State.screened (s : State) (n : SlotId) (kind target : Byte) : Prop :=
  s.counting ∧ s.open_ ∧ s.part.slots[n].busy = false ∧ s.part.serves n kind target ∧
  ¬ s.part.namedElsewhere n kind target

/-- The score and the health of a head after a score event (R74, R76). -/
def HeadHealth.scored (v : HeadHealth) (e : Option (ScoreChange × Trigger)) : HeadHealth :=
  match e with
  | none => v
  | some (c, _) =>
    if v.health.inService = true ∧ c.apply v.score ≠ v.score then
      { v with score := c.apply v.score, health := healthAfter v.health (c.apply v.score) }
    else v

/-- The journal after the REQUEST record of an owner's report, which REQE applies only to a slot in progress with the
kind and target the report names (R147 to R149). -/
def Part.reportJournal (p : Part) (now : Word) (slot : Option SlotId) (kind : Byte) (object : Nat) (r : Result)
    (j : Journal) : Journal :=
  match slot with
  | none => j
  | some n =>
    if p.slots[n].busy = true ∧ p.slots[n].kind = kind ∧ p.slots[n].target.toNat = object then
      j.take p.topo.params.ringCode now (.request n kind p.slots[n].target p.slots[n].token r)
    else j

/-- No head names one section on both sides, as check 4 of a commit has it (R113): said of one head. -/
abbrev Part.twoSections (p : Part) (h : HeadId) : Prop :=
  ∀ i : SectionId, (p.headEntry h).sideA = some i → (p.headEntry h).sideB ≠ some i

/-- An event that disturbs takes the section into DISTURBED (R39 to R45). -/
abbrev SectionRec.disturbable (x : SectionRec) : Prop := x.state ≠ .disturbed ∧ x.state ≠ .unused

/-- The journal after an event that disturbs the sections beside a head: the SECTION records, side a before side b,
then the REQUEST records of the sweeps it breaks (R31, R43; log entry 12). -/
def Part.disturbJournal (p : Part) (now : Word) (h : HeadId) (cause : Cause) (j : Journal) : Journal :=
  (p.adjacent h).foldl
    (fun j i =>
      if p.scnt[i].disturbable then p.reportJournal now p.scnt[i].slot 1#8 i.val .sweepBroken j else j)
    ((p.adjacent h).foldl
      (fun j i =>
        if p.scnt[i].disturbable then
          j.take p.topo.params.ringCode now (.section_ i p.scnt[i].state .disturbed 0 (some cause))
        else j) j)

/-- What an event that disturbs makes of a section beside the head (R39 to R45). -/
def SectionRec.disturbed (x : SectionRec) (cause : Cause) : SectionRec :=
  if x.state = .disturbed then { x with moved := true }
  else if x.state = .unused then x
  else
    { x with
      state := .disturbed, count := 0, cause := some cause, moved := false, slot := none,
      changes := x.changes + 1#8 }

/-- The slot carries a sweep that an event disturbing the sections beside the head breaks (R43, R148). -/
abbrev Part.sweepBreaks (p : Part) (h : HeadId) (n : SlotId) : Prop :=
  p.slots[n].busy = true ∧ p.slots[n].kind = 1#8 ∧
    ∃ i ∈ p.adjacent h, p.slots[n].target.toNat = i.val ∧ p.scnt[i].slot = some n ∧ p.scnt[i].disturbable

/-- The slots after an event that disturbs the sections beside the head (R43, R147). -/
def Part.slotDisturbed (p : Part) (h : HeadId) (n : SlotId) : Slot :=
  if p.sweepBreaks h n then { p.slots[n] with state := .failed, result := some .sweepBroken } else p.slots[n]

/-- The journal after the records that follow the HEAD record of a failure: STANDING end if the head stood, then those
of its sections (R14, R17, R44, R80; log entry 23). -/
def Part.failureJournal (p : Part) (now : Word) (h : HeadId) (j : Journal) : Journal :=
  p.disturbJournal now h .headFailed
    (if p.hdec[h].standing = true then j.take p.topo.params.ringCode now (.standing h true) else j)

/-- The journal after a score event that takes a head's record from `old` to `new`: nothing when the health stays, the
HEAD record when it changes, and what a failure adds (R77, R80). -/
def Part.scoreJournal (p : Part) (now : Word) (h : HeadId) (e : Option (ScoreChange × Trigger)) (y : Option System)
    (old new : HeadHealth) (j : Journal) : Journal :=
  match e with
  | none => j
  | some (_, g) =>
    if new.health = old.health then j
    else
      let q := j.take p.topo.params.ringCode now (.head h old.health new.health new.score g y)
      if new.health = .failed then p.failureJournal now h q else q

/-- The head is in OFF with what OFF clears (R17). -/
def HeadDecoder.off (x : HeadDecoder) : HeadDecoder :=
  { x with
    phase := .off, suspect := false, dwellStart := none, standing := false, shadowPhase := none,
    shadowSuspect := false }

/-- A tick given at `v` is not behind one of SUPV's other ticks: the oldest of those was not given before it (R166). -/
abbrev Part.inTurn (p : Part) (v : Word) (others : List Word) : Prop :=
  ∀ (u : Word) (us : List Word), others = u :: us → (p.tbase.ms - u).toNat ≤ (p.tbase.ms - v).toNat

/-- SUPV's slow tick given at `v` is in turn: behind no supervision tick given before it, and SUPV stands inside no pass
over the heads that a supervision tick has begun (R70, R166). -/
abbrev Part.slowInTurn (p : Part) (v : Word) : Prop :=
  p.inTurn v p.ticks.supv ∧ (p.ticks.scanNext = 0 ∨ p.ticks.supv = [])

/-- The settle tick ends the wait of the section (R37, R38). -/
abbrev Part.settles (p : Part) (i : SectionId) : Prop :=
  p.scnt[i].state = .settling ∧ (∀ e ∈ p.scnt[i].bounding, p.hdec[e.1].phase = .idle) ∧ p.scnt[i].remaining = 0

/-- The slow tick brings the head's restart-limit count to the limit (R85). -/
abbrev Part.runsOut (p : Part) (h : HeadId) : Prop :=
  p.supv[h].health = .recovering ∧ p.topo.params.restartLimit ≤ p.supv[h].restartCount + 1

/-- The dwell limit of the head is reached and standing not yet set (R13). -/
abbrev Part.dwells (p : Part) (h : HeadId) : Prop :=
  ∃ d : Word, p.hdec[h].dwellStart = some d ∧ p.hdec[h].standing = false ∧
    p.topo.params.dwellLimit * 1000 ≤ (p.tbase.ms - d).toNat

/-- Checks 1 to 3 of a commit pass (R113). -/
abbrev Params.passesToRing (c : Params) (m : List (Nat × Word)) (aps : BitVec 4) (check : BitVec 16) : Prop :=
  Shadow.sum m = check ∧ c.badWord = none ∧ 4 ≤ c.ringCode ∧ c.ringCode ≤ 10 ∧
    c.ringBase.toNat % (16 * 2 ^ c.ringCode) = 0 ∧ c.ringBase.toNat / 0x10000 ≠ 0xF0 + aps.toNat

/-- The side fields a head entry may not hold (R113, check 4). -/
abbrev sidesBad (w : Word) : Prop :=
  (24 ≤ w.toNat % 256 ∧ w.toNat % 256 ≤ 254) ∨ (24 ≤ w.toNat / 256 % 256 ∧ w.toNat / 256 % 256 ≤ 254) ∨
    (w.toNat % 256 = w.toNat / 256 % 256 ∧ w.toNat % 256 < 24)

/-- A side of the head names the section (R28). -/
abbrev Params.names (c : Params) (h : HeadId) (i : SectionId) : Prop :=
  c.heads[h].sideA = some i ∨ c.heads[h].sideB = some i

/-- How many heads name the section (R113, check 7). -/
def Params.namingHeads (c : Params) (i : SectionId) : Nat := (allHeads.filter fun h => decide (c.names h i)).length

/-- An edge comes less than `limit` µs after a system's last edge (R2). -/
abbrev Sensor.lessThan (x : Sensor) (stamp : Word) (limit : Nat) : Prop :=
  x.edgeAge ≤ 1 ∧ (stamp - x.edgeTime).toNat < limit

/-- The phase at the head, levels as held, when it is placed by its levels at ms (R15). -/
def HeadDecoder.placed (x : HeadDecoder) (ms : Word) : HeadDecoder :=
  { x with
    phase := if x.free then .idle else .unsettled
    dwellStart := if x.free then none else some ms
    suspect := if x.free then x.suspect else false
    shadowPhase := none
    shadowSuspect := false }

end Sys2Proof.Machine
end

