-- ==== Sys2Proof/Certificates/Slice0/Obligations.lean ====
section
/-! DEFINITION. The statements for the provers. -/

open Sys2Proof Sys2Proof.Machine

/-- O1. A step is the front command on the rest of the queue. -/
def Obligations.StepRunsFrontCommand : Prop :=
  ∀ (c : Instr) (rest : List Instr) (s : State), s.pending = c :: rest →
    step s = exec c { s with pending := rest }

/-- O2. Every command answers a next state and leaves the queue alone. -/
def Obligations.EveryCommandCompletesAndKeepsQueue : Prop :=
  ∀ (c : Instr) (s : State), ∃ t : State, exec c s = .next t ∧ t.pending = s.pending

/-- O3. MS_TICK and the empty queue: counters, edge ages and the ticks that fall with them. -/
def Obligations.TimePasses : Prop :=
  ∀ s : State, s.up →
    (exec .msTick s = .next (s.withPart
      { s.part.lastTickTaken with
        tbase :=
          { us := s.part.lastTickTaken.tbase.us + BitVec.ofNat 32 (1000 - s.part.lastTickTaken.tbase.period / 8)
            ms := s.part.lastTickTaken.tbase.ms + 1#32
            period := 0 }
        hdec := s.part.lastTickTaken.hdec.map fun x =>
          { x with
            sensorA := { x.sensorA with edgeAge := min 15 (x.sensorA.edgeAge + 1) }
            sensorB := { x.sensorB with edgeAge := min 15 (x.sensorB.edgeAge + 1) } }
        ticks :=
          { s.part.lastTickTaken.ticks with
            supv := s.part.lastTickTaken.ticks.supv ++
              if (s.part.lastTickTaken.tbase.ms + 1#32).toNat % 8 = 0 then [s.part.lastTickTaken.tbase.ms + 1#32] else []
            scnt := s.part.lastTickTaken.ticks.scnt ++
              if (s.part.lastTickTaken.tbase.ms + 1#32).toNat % 64 = 0 then [s.part.lastTickTaken.tbase.ms + 1#32] else []
            slowSupv := s.part.lastTickTaken.ticks.slowSupv ++
              if (s.part.lastTickTaken.tbase.ms + 1#32).toNat % 512 = 0 then [s.part.lastTickTaken.tbase.ms + 1#32] else []
            slowTopo := s.part.lastTickTaken.ticks.slowTopo ++
              if (s.part.lastTickTaken.tbase.ms + 1#32).toNat % 512 = 0 then [s.part.lastTickTaken.tbase.ms + 1#32] else [] }
        gen := s.part.lastTickTaken.gen.giveTick (s.part.lastTickTaken.tbase.ms + 1#32)
          s.part.lastTickTaken.topo.params.stepTime })) ∧
    (s.part.gen.tickDue = false → (∀ h : HeadId, ¬ s.part.dwells h) → s.part.lastTickTaken = s.part) ∧
    (∀ (h : HeadId) (u : State), s.part.dwells h → (∀ g : HeadId, g < h → ¬ s.part.dwells g) →
      exec (.dwellLimitReached h) s = .next u → exec .msTick u = exec .msTick s) ∧
    (s.pending = [] →
      (s.part.tbase.period + 1 < 8000 →
        step s = .next (s.withPart
          { s.part with
            tbase :=
              { us := if (s.part.tbase.period + 1) % 8 = 0 then s.part.tbase.us + 1#32 else s.part.tbase.us
                ms := s.part.tbase.ms
                period := s.part.tbase.period + 1 } })) ∧
      (8000 ≤ s.part.tbase.period + 1 → step s = exec .msTick s)) ∧
    (∀ u : State, u.path.porst = true → u.pending = [] → step u = .next u)

/-- O4. EDGE: level, last edge time and edge age, in every mode, phase and health. -/
def Obligations.EdgeUpdatesLevelTimeAndAge : Prop :=
  ∀ (h : HeadId) (y : System) (d : EdgeDir) (period : Nat) (s : State), s.up →
    ((s.part.hdec[h].sensor y).damped ≠ d.damped → s.part.tbase.period ≤ period → period < 8000 →
      ∃ t : State, exec (.edge h y d period) s = .next t ∧
        t.part.tbase =
          { us := s.part.tbase.us + BitVec.ofNat 32 (period / 8 - s.part.tbase.period / 8)
            ms := s.part.tbase.ms
            period := period } ∧
        t.part.hdec[h].sensor y = { damped := d.damped, edgeTime := t.part.tbase.us, edgeAge := 0 } ∧
        t.part.hdec[h].sensor y.other = s.part.hdec[h].sensor y.other ∧
        (∀ g : HeadId, g ≠ h → t.part.hdec[g] = s.part.hdec[g]) ∧
        t.part.scnt = s.part.scnt ∧ t.part.supv = s.part.supv ∧ t.part.slots = s.part.slots ∧
        t.part.topo = s.part.topo ∧ t.part.ticks = s.part.ticks ∧ t.path = s.path ∧ t.mem = s.mem) ∧
    ((s.part.hdec[h].sensor y).damped = d.damped → exec (.edge h y d period) s = .next s)

/-- O5. EDGE: the moves between traverse phases and the separation test. -/
def Obligations.EdgeMovesTraverse : Prop :=
  ∀ (ph nx : Phase) (y : System) (d : EdgeDir),
    (ph, y, d, nx) ∈
      [(.arrA, .sysB, .rising, .ovrA), (.ovrA, .sysA, .falling, .depA), (.ovrA, .sysB, .falling, .arrA),
        (.depA, .sysA, .rising, .ovrA), (.arrB, .sysA, .rising, .ovrB), (.ovrB, .sysA, .falling, .arrB),
        (.ovrB, .sysB, .falling, .depB), (.depB, .sysB, .rising, .ovrB)] →
    ∀ (h : HeadId) (s : State), s.up → s.part.decoding h = true → s.part.hdec[h].phase = ph →
    (s.part.hdec[h].sensor y).damped ≠ d.damped → s.part.tbase.period < 8000 →
    ∃ t : State, exec (.edge h y d s.part.tbase.period) s = .next t ∧
      t.part.hdec[h] =
        { s.part.hdec[h].setSensor y { damped := d.damped, edgeTime := s.part.tbase.us, edgeAge := 0 } with
          phase := nx
          suspect := s.part.hdec[h].suspect ||
            (decide ((s.part.hdec[h].sensor y.other).edgeAge ≤ 1) &&
              decide ((s.part.tbase.us - (s.part.hdec[h].sensor y.other).edgeTime).toNat <
                s.part.topo.params.minSep)) } ∧
      t.part.sent =
        { s.part.sent with
          supv := s.part.sent.supv ++
            if s.part.hdec[h].suspect = false ∧
              (s.part.hdec[h].sensor y.other).lessThan s.part.tbase.us s.part.topo.params.minSep then
              [.separationFault h]
            else []
          copies := s.part.sent.copies ++
            if s.part.gen.state = .releasing ∧ s.part.gen.target = some h then [{ h := h, y := y, d := d }]
            else [] } ∧
      (∀ g : HeadId, g ≠ h → t.part.hdec[g] = s.part.hdec[g]) ∧
      t.part.scnt = s.part.scnt ∧ t.part.supv = s.part.supv ∧ t.part.gen = s.part.gen ∧
      t.part.slots = s.part.slots ∧ t.part.jrnl = s.part.jrnl ∧ t.part.topo = s.part.topo ∧
      t.part.tbase = s.part.tbase ∧ t.part.ticks = s.part.ticks ∧ t.path = s.path ∧ t.mem = s.mem

/-- O6. EDGE: the end of a traverse, its outcome, its receivers and its records. -/
def Obligations.EdgeEndsTraverse : Prop :=
  ∀ (ph : Phase) (y : System),
    (ph, y) ∈ [(.arrA, .sysA), (.depA, .sysB), (.arrB, .sysB), (.depB, .sysA)] →
    ∀ (h : HeadId) (s : State), s.counting → s.part.decoding h = true → s.part.hdec[h].phase = ph →
    (s.part.hdec[h].sensor y).damped = true → s.part.tbase.period < 8000 →
    ∀ (fault marked : Bool) (dir : Direction) (out : PassageOutcome),
    fault = decide ((s.part.hdec[h].sensor y.other).lessThan s.part.tbase.us s.part.topo.params.minSep) →
    marked = (s.part.hdec[h].suspect || fault) →
    dir = (if ph = .arrA ∨ ph = .depA then .aToB else .bToA) →
    out = (if marked = true then .suspect
      else if ph = .depA ∨ ph = .depB then .counted
      else if (s.part.hdec[h].sensor y).lessThan s.part.tbase.us s.part.topo.params.minPulse then .glitch
      else .retreat) →
    ∃ t : State, exec (.edge h y .falling s.part.tbase.period) s = .next t ∧
      t.part.hdec[h] =
        { s.part.hdec[h].setSensor y { damped := false, edgeTime := s.part.tbase.us, edgeAge := 0 } with
          phase := .idle
          suspect := marked
          dwellStart := none
          standing := false } ∧
      t.part.sent =
        { s.part.sent with
          scnt := s.part.sent.scnt ++
            match out with
            | .counted => [.passage h dir]
            | .suspect => [.suspectEnd h]
            | _ => []
          supv := s.part.sent.supv ++
            ((if fault = true ∧ s.part.hdec[h].suspect = false then [.separationFault h] else []) ++
              match out with
              | .counted => [.cleanPassage h]
              | .glitch => [.glitch h]
              | _ => [])
          copies := s.part.sent.copies ++
            if s.part.gen.state = .releasing ∧ s.part.gen.target = some h then [{ h := h, y := y, d := .falling }]
            else [] } ∧
      t.part.jrnl =
        ((if s.part.topo.params.passageRecords = true then [.passage h dir out] else []).foldl
          (fun j d => j.take s.part.topo.params.ringCode s.part.tbase.ms d)
          ((if s.part.hdec[h].standing = true then [.standing h true] else []).foldl
            (fun j d => j.take s.part.topo.params.ringCode s.part.tbase.ms d) s.part.jrnl)) ∧
      (∀ g : HeadId, g ≠ h → t.part.hdec[g] = s.part.hdec[g]) ∧
      t.part.scnt = s.part.scnt ∧ t.part.supv = s.part.supv ∧ t.part.gen = s.part.gen ∧
      t.part.slots = s.part.slots ∧ t.part.topo = s.part.topo ∧ t.part.tbase = s.part.tbase ∧
      t.part.ticks = s.part.ticks ∧ t.path = s.path ∧ t.mem = s.mem

/-- O7. EDGE: a head in IDLE, a head in UNSETTLED, and a head in OFF. -/
def Obligations.EdgeInIdleUnsettledOrOff : Prop :=
  ∀ (h : HeadId) (y : System) (d : EdgeDir) (s : State) (x : HeadDecoder), s.up →
    (s.part.hdec[h].sensor y).damped ≠ d.damped → s.part.tbase.period < 8000 →
    x = s.part.hdec[h].setSensor y { damped := d.damped, edgeTime := s.part.tbase.us, edgeAge := 0 } →
    (s.part.decoding h = true → s.part.hdec[h].phase = .idle → d = .rising →
      exec (.edge h y d s.part.tbase.period) s = .next (s.withPart
        { s.part with
          hdec := s.part.hdec.set h
            { x with
              phase := match y with
                | .sysA => .arrA
                | .sysB => .arrB
              suspect := false
              dwellStart := some s.part.tbase.ms }
          sent :=
            { s.part.sent with
              scnt := s.part.sent.scnt ++ [.movement h]
              copies := s.part.sent.copies ++
                if s.part.gen.state = .releasing ∧ s.part.gen.target = some h then
                  [{ h := h, y := y, d := .rising }]
                else [] } })) ∧
    (s.part.decoding h = true → s.part.jrnl.active = true → s.part.hdec[h].phase = .unsettled →
      ∃ t : State, exec (.edge h y d s.part.tbase.period) s = .next t ∧
        t.part.hdec[h] =
          (if x.sensorA.damped = false ∧ x.sensorB.damped = false then
            { x with phase := .idle, dwellStart := none, standing := false }
          else x) ∧
        t.part.sent =
          { s.part.sent with
            scnt := s.part.sent.scnt ++
              if s.part.gen.state = .releasing ∧ s.part.gen.target = some h then [.movement h]
              else [.unsettledChange h]
            copies := s.part.sent.copies ++
              if s.part.gen.state = .releasing ∧ s.part.gen.target = some h then [{ h := h, y := y, d := d }]
              else [] } ∧
        (∀ g : HeadId, g ≠ h → t.part.hdec[g] = s.part.hdec[g]) ∧
        t.part.jrnl =
          (if x.sensorA.damped = false ∧ x.sensorB.damped = false ∧ s.part.hdec[h].standing = true then
            s.part.journalAfter s.part.tbase.ms (.standing h true)
          else s.part.jrnl) ∧
        t.part.scnt = s.part.scnt ∧ t.part.supv = s.part.supv ∧ t.part.gen = s.part.gen ∧
        t.part.slots = s.part.slots ∧ t.part.topo = s.part.topo ∧ t.part.tbase = s.part.tbase ∧
        t.part.ticks = s.part.ticks ∧ t.path = s.path ∧ t.mem = s.mem) ∧
    (s.part.hdec[h].phase = .off →
      ∃ t : State, exec (.edge h y d s.part.tbase.period) s = .next t ∧ t.part.hdec[h] = x ∧
        t.part.sent =
          { s.part.sent with
            scnt := s.part.sent.scnt ++
              if s.part.topo.mode = .running ∧ s.part.used h = true then [.movement h] else []
            copies := s.part.sent.copies ++
              if s.part.gen.state = .releasing ∧ s.part.gen.target = some h then [{ h := h, y := y, d := d }]
              else [] } ∧
        (∀ g : HeadId, g ≠ h → t.part.hdec[g] = s.part.hdec[g]) ∧ t.part.jrnl = s.part.jrnl ∧
        t.part.scnt = s.part.scnt ∧ t.part.supv = s.part.supv ∧ t.part.gen = s.part.gen ∧
        t.part.slots = s.part.slots ∧ t.part.topo = s.part.topo ∧ t.part.tbase = s.part.tbase ∧
        t.part.ticks = s.part.ticks ∧ t.path = s.path ∧ t.mem = s.mem)

/-- O8. EDGE: a head in TEST is copied to TGEN and decoded in the shadow phase alone. -/
def Obligations.EdgeInTestIsShadowDecoded : Prop :=
  ∀ (h : HeadId) (y : System) (d : EdgeDir) (s : State) (ph : Phase), s.up →
    (s.part.hdec[h].sensor y).damped ≠ d.damped → s.part.tbase.period < 8000 →
    s.part.hdec[h].phase = .test → s.part.hdec[h].shadowPhase = some ph →
    ∃ t : State, exec (.edge h y d s.part.tbase.period) s = .next t ∧
      t.part.hdec[h].phase = .test ∧
      t.part.sent = { s.part.sent with copies := s.part.sent.copies ++ [{ h := h, y := y, d := d }] } ∧
      t.part.jrnl = s.part.jrnl ∧ t.part.scnt = s.part.scnt ∧ t.part.supv = s.part.supv ∧
      t.part.slots = s.part.slots ∧ t.part.topo = s.part.topo ∧ t.path = s.path ∧ t.mem = s.mem ∧
      (ph = .idle → d = .rising →
        t.part.hdec[h].shadowPhase = some (match y with
          | .sysA => .arrA
          | .sysB => .arrB) ∧
        t.part.hdec[h].shadowSuspect = false ∧ t.part.gen = s.part.gen) ∧
      (∀ nx : Phase,
        (ph, y, d, nx) ∈
          [(.arrA, .sysB, .rising, .ovrA), (.ovrA, .sysA, .falling, .depA), (.ovrA, .sysB, .falling, .arrA),
            (.depA, .sysA, .rising, .ovrA), (.arrB, .sysA, .rising, .ovrB), (.ovrB, .sysA, .falling, .arrB),
            (.ovrB, .sysB, .falling, .depB), (.depB, .sysB, .rising, .ovrB), (.arrA, .sysA, .falling, .idle),
            (.depA, .sysB, .falling, .idle), (.arrB, .sysB, .falling, .idle), (.depB, .sysA, .falling, .idle)] →
        t.part.hdec[h].shadowPhase = some nx ∧
        t.part.hdec[h].shadowSuspect = (s.part.hdec[h].shadowSuspect ||
          decide ((s.part.hdec[h].sensor y.other).lessThan s.part.tbase.us s.part.topo.params.minSep)) ∧
        t.part.gen.shadowSeparation = (s.part.gen.shadowSeparation ||
          (decide ((s.part.hdec[h].sensor y.other).lessThan s.part.tbase.us s.part.topo.params.minSep) &&
            !s.part.hdec[h].shadowSuspect)) ∧
        (nx ≠ .idle → t.part.gen.outcomes = s.part.gen.outcomes) ∧
        (nx = .idle →
          t.part.gen.outcomes = s.part.gen.outcomes ++
            [((if t.part.hdec[h].shadowSuspect = true then .suspect
               else if ph = .depA ∨ ph = .depB then .counted
               else if (s.part.hdec[h].sensor y).lessThan s.part.tbase.us s.part.topo.params.minPulse then .glitch
               else .retreat),
              (if ph = .arrA ∨ ph = .depA then .aToB else .bToA))]))

/-- O9. DWELL_LIMIT_REACHED: standing is set with a STANDING begin record. -/
def Obligations.DwellLimitSetsStanding : Prop :=
  ∀ (h : HeadId) (s : State), s.counting →
    (∀ d : Word, s.part.hdec[h].dwellStart = some d → s.part.hdec[h].standing = false →
      s.part.topo.params.dwellLimit * 1000 ≤ (s.part.tbase.ms - d).toNat →
      exec (.dwellLimitReached h) s = .next (s.withPart
        { s.part with
          hdec := s.part.hdec.set h { s.part.hdec[h] with standing := true }
          jrnl := s.part.journalAfter s.part.tbase.ms (.standing h false) })) ∧
    ((s.part.hdec[h].dwellStart = none ∨ s.part.hdec[h].standing = true ∨
        ∃ d : Word, s.part.hdec[h].dwellStart = some d ∧
          (s.part.tbase.ms - d).toNat < s.part.topo.params.dwellLimit * 1000) →
      exec (.dwellLimitReached h) s = .next s)

/-- O10. PASSAGE_EVENT: a leave on one side and an enter on the other, in one update. -/
def Obligations.PassageCrossesBothSections : Prop :=
  (∀ (h : HeadId) (d : Direction) (s : State) (na nb : SectionId → SectionRec), s.counting →
      .passage h d ∈ s.part.sent.scnt →
      (∀ i : SectionId, (s.part.headEntry h).sideA = some i → (s.part.headEntry h).sideB ≠ some i) →
      na = (fun i => if d = .bToA then s.part.scnt[i].enter
        else s.part.scnt[i].leave (s.part.sectionEntry i).settle) →
      nb = (fun i => if d = .aToB then s.part.scnt[i].enter
        else s.part.scnt[i].leave (s.part.sectionEntry i).settle) →
      ∃ t : State, exec (.passageEvent h d) s = .next t ∧
        (∀ i : SectionId, (s.part.headEntry h).sideA = some i →
          t.part.scnt[i] =
            { na i with
              changes := s.part.scnt[i].changes +
                if s.part.scnt[i].state = (na i).state ∧ s.part.scnt[i].count = (na i).count ∧
                  s.part.scnt[i].cause = (na i).cause then 0#8 else 1#8 }) ∧
        (∀ i : SectionId, (s.part.headEntry h).sideB = some i →
          t.part.scnt[i] =
            { nb i with
              changes := s.part.scnt[i].changes +
                if s.part.scnt[i].state = (nb i).state ∧ s.part.scnt[i].count = (nb i).count ∧
                  s.part.scnt[i].cause = (nb i).cause then 0#8 else 1#8 }) ∧
        (∀ i : SectionId, (s.part.headEntry h).sideA ≠ some i → (s.part.headEntry h).sideB ≠ some i →
          t.part.scnt[i] = s.part.scnt[i]) ∧
        (∀ n : SlotId,
          t.part.slots[n] =
            if s.part.slots[n].busy = true ∧ s.part.slots[n].kind = 1#8 ∧
              ∃ i : SectionId, s.part.slots[n].target.toNat = i.val ∧ s.part.scnt[i].slot = some n ∧
                s.part.scnt[i].state ≠ .disturbed ∧
                (((s.part.headEntry h).sideA = some i ∧ (na i).state = .disturbed) ∨
                  ((s.part.headEntry h).sideB = some i ∧ (nb i).state = .disturbed)) then
              { s.part.slots[n] with state := .failed, result := some .sweepBroken }
            else s.part.slots[n]) ∧
        t.part.jrnl =
          ((s.part.headEntry h).sideA.toList.map (fun i => (i, na i)) ++
              (s.part.headEntry h).sideB.toList.map (fun i => (i, nb i))).foldl
            (fun j e =>
              if s.part.scnt[e.1].state ≠ .disturbed ∧ e.2.state = .disturbed then
                s.part.reportJournal s.part.tbase.ms s.part.scnt[e.1].slot 1#8 e.1.val .sweepBroken j
              else j)
            (((s.part.headEntry h).sideA.toList.map (fun i => (i, na i)) ++
                (s.part.headEntry h).sideB.toList.map (fun i => (i, nb i))).foldl
              (fun j e => j.afterSection s.part.topo.params.ringCode s.part.tbase.ms e.1 s.part.scnt[e.1] e.2)
              s.part.jrnl) ∧
        t.part.sent = { s.part.sent with scnt := s.part.sent.scnt.erase (.passage h d) } ∧
        t.part.hdec = s.part.hdec ∧ t.part.supv = s.part.supv ∧ t.part.gen = s.part.gen ∧
        t.part.topo = s.part.topo ∧ t.part.tbase = s.part.tbase ∧ t.path = s.path ∧ t.mem = s.mem) ∧
  (∀ (h : HeadId) (d : Direction) (s : State), s.up → s.part.topo.mode ≠ .running →
    .passage h d ∈ s.part.sent.scnt →
    exec (.passageEvent h d) s = .next (s.withPart
      { s.part with sent := { s.part.sent with scnt := s.part.sent.scnt.erase (.passage h d) } }))

/-- O11. The enter table and the leave table of a section. -/
def Obligations.EnterAndLeaveTables : Prop :=
  ∀ (x : SectionRec) (code : Nat),
    (x.state = .clear → x.enter = { x with state := .occupied, count := 1 }) ∧
    (x.state = .occupied → x.count ≤ 1022 → x.enter = { x with count := x.count + 1 }) ∧
    (x.state = .occupied → x.count = 1023 →
      x.enter = { x with state := .disturbed, count := 0, cause := some .overflow, moved := false, slot := none }) ∧
    (x.state = .settling → x.slot = none → x.enter = { x with state := .occupied, count := 1 }) ∧
    (x.state = .settling → x.slot ≠ none → x.enter = { x with state := .sweeping, count := 1 }) ∧
    (x.state = .sweepWait → x.enter = { x with state := .sweeping, count := 1 }) ∧
    (x.state = .sweeping → x.count ≤ 1022 → x.enter = { x with count := x.count + 1 }) ∧
    (x.state = .sweeping → x.count = 1023 →
      x.enter = { x with state := .disturbed, count := 0, cause := some .overflow, moved := false, slot := none }) ∧
    (x.state = .disturbed → x.enter = { x with moved := true }) ∧
    (x.state = .clear →
      x.leave code = { x with state := .disturbed, count := 0, cause := some .underflow, moved := false, slot := none }) ∧
    (x.state = .occupied → 2 ≤ x.count → x.leave code = { x with count := x.count - 1 }) ∧
    (x.state = .occupied → x.count = 1 →
      x.leave code = { x with state := .settling, count := 0, remaining := code }) ∧
    (x.state = .settling →
      x.leave code = { x with state := .disturbed, count := 0, cause := some .underflow, moved := false, slot := none }) ∧
    (x.state = .sweepWait →
      x.leave code = { x with state := .disturbed, count := 0, cause := some .underflow, moved := false, slot := none }) ∧
    (x.state = .sweeping → 2 ≤ x.count → x.leave code = { x with count := x.count - 1 }) ∧
    (x.state = .sweeping → x.count = 1 →
      x.leave code = { x with state := .settling, count := 0, remaining := code }) ∧
    (x.state = .disturbed → x.leave code = { x with moved := true })

/-- O12. SUSPECT_END_EVENT, UNSETTLED_CHANGE_NOTICE, TEST_ABORT_NOTICE, MOVEMENT_NOTICE: what each does to the adjacent sections. -/
def Obligations.NoticesReachAdjacentSections : Prop :=
  (∀ (h : HeadId) (s : State) (c : Instr) (m : ToScnt) (cause : Cause),
      (c, m, cause) ∈
        [(.suspectEndEvent h, .suspectEnd h, .countSuspect),
          (.unsettledChangeNotice h, .unsettledChange h, .countSuspect),
          (.testAbortNotice h, .testAbort h, .testAbort)] →
      s.counting → m ∈ s.part.sent.scnt → s.part.twoSections h →
      ∃ t : State, exec c s = .next t ∧
        (∀ i ∈ s.part.adjacent h, t.part.scnt[i] = s.part.scnt[i].disturbed cause) ∧
        (∀ i : SectionId, i ∉ s.part.adjacent h → t.part.scnt[i] = s.part.scnt[i]) ∧
        (∀ n : SlotId, t.part.slots[n] = s.part.slotDisturbed h n) ∧
        t.part.jrnl = s.part.disturbJournal s.part.tbase.ms h cause s.part.jrnl ∧
        t.part.sent = { s.part.sent with scnt := s.part.sent.scnt.erase m } ∧
        t.part.hdec = s.part.hdec ∧ t.part.supv = s.part.supv ∧ t.part.gen = s.part.gen ∧
        t.part.topo = s.part.topo ∧ t.part.tbase = s.part.tbase ∧ t.path = s.path ∧ t.mem = s.mem) ∧
    (∀ (h : HeadId) (s : State), s.up → .movement h ∈ s.part.sent.scnt →
      ∃ t : State, exec (.movementNotice h) s = .next t ∧
        (∀ i : SectionId,
          t.part.scnt[i] =
            if s.part.topo.mode = .running ∧ i ∈ s.part.adjacent h ∧ s.part.scnt[i].state = .disturbed then
              { s.part.scnt[i] with moved := true }
            else s.part.scnt[i]) ∧
        t.part.sent = { s.part.sent with scnt := s.part.sent.scnt.erase (.movement h) } ∧
        t.part.hdec = s.part.hdec ∧ t.part.supv = s.part.supv ∧ t.part.gen = s.part.gen ∧
        t.part.slots = s.part.slots ∧ t.part.jrnl = s.part.jrnl ∧ t.part.topo = s.part.topo ∧
        t.part.tbase = s.part.tbase ∧ t.part.ticks = s.part.ticks ∧ t.path = s.path ∧ t.mem = s.mem) ∧
    (∀ (h : HeadId) (s : State) (c : Instr) (m : ToScnt),
      (c, m) ∈
        [(.suspectEndEvent h, .suspectEnd h), (.unsettledChangeNotice h, .unsettledChange h),
          (.testAbortNotice h, .testAbort h)] →
      s.up → s.part.topo.mode ≠ .running → m ∈ s.part.sent.scnt →
      exec c s = .next (s.withPart
        { s.part with sent := { s.part.sent with scnt := s.part.sent.scnt.erase m } }))

/-- O13. SETTLE_TICK: every SETTLING section by its bounding heads and its settle remaining. -/
def Obligations.SettleTickExaminesSettlingSections : Prop :=
  ∀ (s : State) (v : Word) (rest : List Word), s.up → s.part.ticks.scnt = v :: rest →
    (s.part.topo.mode = .running →
      ∃ t : State, exec .settleTick s = .next t ∧
        (∀ i : SectionId,
          t.part.scnt[i] =
            if s.part.scnt[i].state ≠ .settling then s.part.scnt[i]
            else if s.part.scnt[i].bounding.any (fun e => decide (s.part.hdec[e.1].phase ≠ .idle)) = true then
              { s.part.scnt[i] with remaining := (s.part.sectionEntry i).settle }
            else if s.part.scnt[i].remaining = 0 then
              { s.part.scnt[i] with state := .clear, slot := none, changes := s.part.scnt[i].changes + 1#8 }
            else { s.part.scnt[i] with remaining := s.part.scnt[i].remaining - 1 }) ∧
        (∀ n : SlotId,
          t.part.slots[n] =
            if s.part.slots[n].busy = true ∧ s.part.slots[n].kind = 1#8 ∧
              ∃ i : SectionId, s.part.slots[n].target.toNat = i.val ∧ s.part.scnt[i].slot = some n ∧
                s.part.settles i then
              { s.part.slots[n] with state := .done, result := some .ok }
            else s.part.slots[n]) ∧
        (s.part.jrnl.active = true →
          t.part.jrnl =
            allSections.foldl
              (fun j i =>
                if s.part.settles i then
                  s.part.reportJournal v s.part.scnt[i].slot 1#8 i.val .ok
                    (j.take s.part.topo.params.ringCode v
                      (.section_ i .settling .clear s.part.scnt[i].count s.part.scnt[i].cause))
                else j)
              s.part.jrnl) ∧
        t.part.ticks = { s.part.ticks with scnt := rest } ∧ t.part.hdec = s.part.hdec ∧
        t.part.supv = s.part.supv ∧ t.part.gen = s.part.gen ∧ t.part.topo = s.part.topo ∧
        t.part.tbase = s.part.tbase ∧ t.part.sent = s.part.sent ∧ t.path = s.path ∧ t.mem = s.mem) ∧
    (s.part.topo.mode ≠ .running →
      exec .settleTick s = .next (s.withPart { s.part with ticks := { s.part.ticks with scnt := rest } }))

/-- O14. SETTLE_WAIT_END: the section is CLEAR and its sweep complete. -/
def Obligations.SettleWaitEndClearsSection : Prop :=
  ∀ (i : SectionId) (s : State), s.up → s.part.topo.mode = .running → s.part.ticks.scnt ≠ [] →
    s.part.scnt[i].state = .settling → s.part.scnt[i].remaining = 0 →
    (∀ e ∈ s.part.scnt[i].bounding, s.part.hdec[e.1].phase = .idle) →
    exec (.settleWaitEnd i) s = exec .settleTick s ∧
    ∃ t : State, exec (.settleWaitEnd i) s = .next t ∧
      t.part.scnt[i] =
        { s.part.scnt[i] with state := .clear, slot := none, changes := s.part.scnt[i].changes + 1#8 } ∧
      (∀ n : SlotId, s.part.scnt[i].slot = some n → s.part.slots[n].busy = true →
        s.part.slots[n].kind = 1#8 → s.part.slots[n].target.toNat = i.val →
        t.part.slots[n] = { s.part.slots[n] with state := .done, result := some .ok }) ∧
      (∀ (v : Word) (rest : List Word), s.part.ticks.scnt = v :: rest → s.part.jrnl.active = true →
        (∀ j : SectionId, j ≠ i → ¬ s.part.settles j) →
        t.part.jrnl = s.part.reportJournal v s.part.scnt[i].slot 1#8 i.val .ok
          (s.part.journalAfter v (.section_ i .settling .clear s.part.scnt[i].count s.part.scnt[i].cause))) ∧
      t.part.hdec = s.part.hdec ∧ t.part.supv = s.part.supv ∧ t.part.gen = s.part.gen ∧
      t.part.topo = s.part.topo ∧ t.path = s.path ∧ t.mem = s.mem

/-- O15. SWEEP_RESET and PREPARED_RESET: what acceptance does to the section, the slot and the journal. -/
def Obligations.RestorationsAccepted : Prop :=
  (∀ (n : SlotId) (i : SectionId) (target token : Byte) (s : State), s.screened n 1#8 target →
      target.toNat = i.val → s.part.scnt[i].state = .disturbed →
      (∀ e ∈ s.part.scnt[i].bounding, s.part.supv[e.1].health ∈ [.healthy, .marginal]) →
      exec (.sweepReset n target token (~~~token)) s = .next (s.commandTaken n 1#8 target token (~~~token)
        { s.part with
          scnt := s.part.scnt.set i
            { s.part.scnt[i] with
              state := .sweepWait
              count := 0
              cause := none
              moved := false
              slot := some n
              changes := s.part.scnt[i].changes + 1#8 }
          jrnl := s.part.journalAfter s.part.tbase.ms (.section_ i .disturbed .sweepWait 0 none)
          slots := s.part.slots.set n
            { s.part.slots[n] with
              state := .waiting, kind := 1#8, target := target, token := token, result := none } })) ∧
    (∀ (n : SlotId) (i : SectionId) (target token : Byte) (s : State), s.screened n 2#8 target →
      target.toNat = i.val → s.part.scnt[i].state = .disturbed → (s.part.sectionEntry i).prepared = true →
      s.part.scnt[i].cause ∈ [some .headFailed, some .testAbort, some .resetCancelled] →
      s.part.scnt[i].moved = false →
      (∀ e ∈ s.part.scnt[i].bounding, s.part.supv[e.1].health ∈ [.healthy, .marginal] ∧
        s.part.hdec[e.1].phase = .idle ∧ s.part.hdec[e.1].standing = false) →
      exec (.preparedReset n target token (~~~token)) s = .next (s.commandTaken n 2#8 target token (~~~token)
        { s.part with
          scnt := s.part.scnt.set i
            { s.part.scnt[i] with
              state := .clear
              count := 0
              cause := none
              moved := false
              changes := s.part.scnt[i].changes + 1#8 }
          jrnl := (s.part.journalAfter s.part.tbase.ms (.section_ i .disturbed .clear 0 none)).take
            s.part.topo.params.ringCode s.part.tbase.ms (.request n 2#8 target token .ok)
          slots := s.part.slots.set n
            { s.part.slots[n] with
              state := .done, kind := 2#8, target := target, token := token, result := some .ok } }))

/-- O16. HEAD_RESTART: acceptance makes a FAILED head RECOVERING and the slot WAITING. -/
def Obligations.HeadRestartAccepted : Prop :=
  ∀ (n : SlotId) (h : HeadId) (target token : Byte) (s : State), s.screened n 3#8 target →
    target.toNat = h.val → s.part.supv[h].health = .failed →
    exec (.headRestart n target token (~~~token)) s = .next (s.commandTaken n 3#8 target token (~~~token)
      { s.part with
        supv := s.part.supv.set h
          { s.part.supv[h] with
            health := .recovering
            quiet := 0
            restartCount := 0
            refTimes := some (s.part.hdec[h].sensorA.edgeTime, s.part.hdec[h].sensorB.edgeTime)
            restartSlot := some n }
        slots := s.part.slots.set n
          { s.part.slots[n] with
            state := .waiting, kind := 3#8, target := target, token := token, result := none } })

/-- O17. HEAD_TEST: acceptance starts the generator, puts the head in TEST and the slot in ACTIVE. -/
def Obligations.HeadTestAccepted : Prop :=
  ∀ (n : SlotId) (h : HeadId) (target token : Byte) (s : State), s.screened n 4#8 target →
    target.toNat = h.val → s.part.supv[h].health ∈ [.healthy, .marginal, .degraded] →
    s.part.hdec[h].phase = .idle → s.part.hdec[h].standing = false →
    (∀ i ∈ s.part.adjacent h, s.part.scnt[i].state = .clear) →
    s.part.gen.state = .idle → s.part.gen.reportPending = false →
    exec (.headTest n target token (~~~token)) s = .next (s.commandTaken n 4#8 target token (~~~token)
      { s.part with
        gen :=
          { state := .running, target := some h, slot := some n,
            direction := some (if s.part.slots[n].param.getLsbD 0 = true then .bToA else .aToB), step := 0,
            stepStart := none, stepDeadline := none, expectA := false, expectB := false, response := false,
            followOpen := false, outcomes := [], shadowSeparation := false, releaseLeft := none,
            releaseA := false, releaseB := false, reportPending := false, tickDue := false,
            serial := s.part.gen.serial + 1 }
        hdec := s.part.hdec.set h
          { s.part.hdec[h] with
            phase := .test
            suspect := false
            dwellStart := none
            shadowPhase := some .idle
            shadowSuspect := false }
        slots := s.part.slots.set n
          { s.part.slots[n] with
            state := .active, kind := 4#8, target := target, token := token, result := none } })

/-- O18. COMMAND_NOT_A_KIND and every other kind: steps 2 to 8 of the acceptance order. -/
def Obligations.RequestsAreScreenedInOrder : Prop :=
  ∀ (n : SlotId) (kind target token check : Byte) (s : State), s.open_ →
    (kind = 0#8 →
      exec (requestOf kind n target token check) s = .next (s.commandTaken n kind target token check s.part)) ∧
    (kind ≠ 0#8 → s.part.slots[n].busy = true →
      exec (requestOf kind n target token check) s = .next (s.commandTaken n kind target token check
        (s.part.record s.part.tbase.ms (.request n kind target token .slotBusy)))) ∧
    (kind ≠ 0#8 → s.part.slots[n].busy = false → s.part.topo.mode ≠ .running →
      exec (requestOf kind n target token check) s = .next (s.refusedWith n kind target token check .notRunning)) ∧
    (kind ≠ 0#8 → s.part.slots[n].busy = false → s.part.topo.mode = .running → check ≠ ~~~token →
      exec (requestOf kind n target token check) s = .next (s.refusedWith n kind target token check .badCheck)) ∧
    (kind ≠ 0#8 → s.part.slots[n].busy = false → s.part.topo.mode = .running → check = ~~~token → 5 < kind.toNat →
      exec (requestOf kind n target token check) s = .next (s.refusedWith n kind target token check .badKind)) ∧
    (kind ≠ 0#8 → s.part.slots[n].busy = false → s.part.topo.mode = .running → check = ~~~token → kind.toNat ≤ 5 →
      ¬ s.part.serves n kind target →
      exec (requestOf kind n target token check) s = .next (s.refusedWith n kind target token check .badTarget)) ∧
    (kind ≠ 0#8 → s.part.slots[n].busy = false → s.part.topo.mode = .running → check = ~~~token → kind.toNat ≤ 5 →
      s.part.serves n kind target → s.part.namedElsewhere n kind target →
      exec (requestOf kind n target token check) s = .next (s.refusedWith n kind target token check .targetBusy))

/-- O19. Step 9: the refusals of SCNT, SUPV, TGEN and REQE, in their order. -/
def Obligations.OwnersRefuseInOrder : Prop :=
  ∀ (n : SlotId) (target token : Byte) (s : State),
    (∀ i : SectionId, target.toNat = i.val → s.screened n 1#8 target →
      (s.part.scnt[i].state ≠ .disturbed →
        exec (.sweepReset n target token (~~~token)) s =
          .next (s.refusedWith n 1#8 target token (~~~token) .state)) ∧
      (s.part.scnt[i].state = .disturbed →
        (∃ e ∈ s.part.scnt[i].bounding, s.part.supv[e.1].health ∉ [.healthy, .marginal]) →
        exec (.sweepReset n target token (~~~token)) s =
          .next (s.refusedWith n 1#8 target token (~~~token) .headNotReady))) ∧
    (∀ i : SectionId, target.toNat = i.val → s.screened n 2#8 target →
      (s.part.scnt[i].state ≠ .disturbed →
        exec (.preparedReset n target token (~~~token)) s =
          .next (s.refusedWith n 2#8 target token (~~~token) .state)) ∧
      (s.part.scnt[i].state = .disturbed →
        ((s.part.sectionEntry i).prepared = false ∨
          s.part.scnt[i].cause ∉ [some .headFailed, some .testAbort, some .resetCancelled]) →
        exec (.preparedReset n target token (~~~token)) s =
          .next (s.refusedWith n 2#8 target token (~~~token) .cause)) ∧
      (s.part.scnt[i].state = .disturbed → (s.part.sectionEntry i).prepared = true →
        s.part.scnt[i].cause ∈ [some .headFailed, some .testAbort, some .resetCancelled] →
        s.part.scnt[i].moved = true →
        exec (.preparedReset n target token (~~~token)) s =
          .next (s.refusedWith n 2#8 target token (~~~token) .moved)) ∧
      (s.part.scnt[i].state = .disturbed → (s.part.sectionEntry i).prepared = true →
        s.part.scnt[i].cause ∈ [some .headFailed, some .testAbort, some .resetCancelled] →
        s.part.scnt[i].moved = false →
        (∃ e ∈ s.part.scnt[i].bounding, s.part.supv[e.1].health ∉ [.healthy, .marginal] ∨
          s.part.hdec[e.1].phase ≠ .idle ∨ s.part.hdec[e.1].standing = true) →
        exec (.preparedReset n target token (~~~token)) s =
          .next (s.refusedWith n 2#8 target token (~~~token) .headNotReady))) ∧
    (∀ h : HeadId, target.toNat = h.val → s.screened n 3#8 target → s.part.supv[h].health ≠ .failed →
      exec (.headRestart n target token (~~~token)) s =
        .next (s.refusedWith n 3#8 target token (~~~token) .state)) ∧
    (∀ h : HeadId, target.toNat = h.val → s.screened n 4#8 target →
      (s.part.supv[h].health ∈ [.failed, .recovering] ∨ s.part.hdec[h].phase ≠ .idle ∨
          s.part.hdec[h].standing = true →
        exec (.headTest n target token (~~~token)) s =
          .next (s.refusedWith n 4#8 target token (~~~token) .headNotReady)) ∧
      (s.part.supv[h].health ∈ [.healthy, .marginal, .degraded] → s.part.hdec[h].phase = .idle →
        s.part.hdec[h].standing = false → (∃ i ∈ s.part.adjacent h, s.part.scnt[i].state ≠ .clear) →
        exec (.headTest n target token (~~~token)) s =
          .next (s.refusedWith n 4#8 target token (~~~token) .state)) ∧
      (s.part.supv[h].health ∈ [.healthy, .marginal, .degraded] → s.part.hdec[h].phase = .idle →
        s.part.hdec[h].standing = false → (∀ i ∈ s.part.adjacent h, s.part.scnt[i].state = .clear) →
        (s.part.gen.state ≠ .idle ∨ s.part.gen.reportPending = true) →
        exec (.headTest n target token (~~~token)) s =
          .next (s.refusedWith n 4#8 target token (~~~token) .testBusy))) ∧
    (∀ m : SlotId, target.toNat = m.val → s.screened n 5#8 target → s.part.slots[m].busy = false →
      exec (.cancel n target token (~~~token)) s =
        .next (s.refusedWith n 5#8 target token (~~~token) .nothingToCancel))

/-- O20. CANCEL of a sweep: the section is DISTURBED RESET_CANCELLED, the two slots are final. -/
def Obligations.CancelEndsSweep : Prop :=
  ∀ (n m : SlotId) (i : SectionId) (target token : Byte) (s : State), s.screened n 5#8 target →
    target.toNat = m.val → s.part.slots[m].busy = true → s.part.slots[m].kind = 1#8 →
    s.part.scnt[i].slot = some m → (∀ j : SectionId, s.part.scnt[j].slot = some m → j = i) →
    s.part.scnt[i].state ∈ [.sweepWait, .sweeping, .settling] →
    exec (.cancel n target token (~~~token)) s = .next (s.commandTaken n 5#8 target token (~~~token)
      { s.part with
        scnt := s.part.scnt.set i
          { s.part.scnt[i] with
            state := .disturbed
            count := 0
            cause := some .resetCancelled
            moved := !(decide (s.part.scnt[i].state = .sweepWait) &&
              s.part.scnt[i].bounding.all fun e => decide (s.part.hdec[e.1].phase = .idle))
            slot := none
            changes := s.part.scnt[i].changes + 1#8 }
        jrnl := ((s.part.journalAfter s.part.tbase.ms
            (.section_ i s.part.scnt[i].state .disturbed 0 (some .resetCancelled))).take
            s.part.topo.params.ringCode s.part.tbase.ms
            (.request m 1#8 s.part.slots[m].target s.part.slots[m].token .cancelled)).take
            s.part.topo.params.ringCode s.part.tbase.ms (.request n 5#8 target token .ok)
        slots := (s.part.slots.set m
            { s.part.slots[m] with state := .cancelled, result := some .cancelled }).set n
          { s.part.slots[n] with
            state := .done, kind := 5#8, target := target, token := token, result := some .ok } })

/-- O21. CANCEL of a restart: the head is FAILED again, the two slots are final. -/
def Obligations.CancelEndsRestart : Prop :=
  ∀ (n m : SlotId) (h : HeadId) (target token : Byte) (s : State), s.screened n 5#8 target →
    target.toNat = m.val → s.part.slots[m].busy = true → s.part.slots[m].kind = 3#8 →
    s.part.supv[h].health = .recovering → s.part.supv[h].restartSlot = some m →
    (∀ g : HeadId, s.part.supv[g].restartSlot = some m → g = h) →
    exec (.cancel n target token (~~~token)) s = .next (s.commandTaken n 5#8 target token (~~~token)
      { s.part with
        supv := s.part.supv.set h
          { s.part.supv[h] with
            health := .failed
            quiet := 0
            restartCount := 0
            refTimes := none
            restartSlot := none }
        jrnl := ((s.part.journalAfter s.part.tbase.ms
            (.head h .recovering .failed s.part.supv[h].score .restartCancelled none)).take
            s.part.topo.params.ringCode s.part.tbase.ms
            (.request m 3#8 s.part.slots[m].target s.part.slots[m].token .cancelled)).take
            s.part.topo.params.ringCode s.part.tbase.ms (.request n 5#8 target token .ok)
        slots := (s.part.slots.set m
            { s.part.slots[m] with state := .cancelled, result := some .cancelled }).set n
          { s.part.slots[n] with
            state := .done, kind := 5#8, target := target, token := token, result := some .ok } })

/-- O22. CANCEL of a test: drive released, release allowance opened, the two slots are final. -/
def Obligations.CancelEndsTest : Prop :=
  ∀ (n m : SlotId) (h : HeadId) (d : Direction) (target token : Byte) (s : State), s.screened n 5#8 target →
    target.toNat = m.val → s.part.slots[m].busy = true → s.part.slots[m].kind = 4#8 →
    s.part.gen.state = .running → s.part.gen.target = some h → s.part.gen.direction = some d →
    exec (.cancel n target token (~~~token)) s = .next (s.commandTaken n 5#8 target token (~~~token)
      { s.part with
        gen :=
          { state := .releasing, target := some h, slot := none, direction := some d, step := 0,
            stepStart := none, stepDeadline := none, expectA := false, expectB := false, response := false,
            followOpen := false, outcomes := [], shadowSeparation := false, releaseLeft := some 5,
            releaseA := s.part.hdec[h].sensorA.damped, releaseB := s.part.hdec[h].sensorB.damped,
            reportPending := s.part.gen.reportPending, tickDue := s.part.gen.tickDue,
            serial := s.part.gen.serial }
        hdec := s.part.hdec.set h (s.part.hdec[h].placed s.part.tbase.ms)
        jrnl := ((s.part.journalAfter s.part.tbase.ms
            (.test h d .cancel (if s.part.gen.step = 0 then none else some s.part.gen.step) none)).take
            s.part.topo.params.ringCode s.part.tbase.ms
            (.request m 4#8 s.part.slots[m].target s.part.slots[m].token .cancelled)).take
            s.part.topo.params.ringCode s.part.tbase.ms (.request n 5#8 target token .ok)
        slots := (s.part.slots.set m
            { s.part.slots[m] with state := .cancelled, result := some .cancelled }).set n
          { s.part.slots[n] with
            state := .done, kind := 5#8, target := target, token := token, result := some .ok } })

/-- O23. PARTIAL_COMMAND is no request; PARAMETER_WORD_WRITE merges lane by lane. -/
def Obligations.PartialCommandAndParameterWrites : Prop :=
  ∀ (n : SlotId) (lanes : Lanes) (data : Word) (s : State), s.open_ →
    (lanes ≠ fullLanes → s.counting →
      exec (.partialCommand n lanes data) s = .next
        ((s.withPart
          { s.part with
            jrnl := s.part.journalAfter s.part.tbase.ms
              (.violation (BitVec.ofNat 24 (apertureBase s.path.aps + commandOffset n)) .partialCommand) }).pass
          (writeSome (s.commandAddr n) lanes data))) ∧
    (lanes ≠ fullLanes → s.part.topo.mode ≠ .running →
      exec (.partialCommand n lanes data) s = .next (s.pass (writeSome (s.commandAddr n) lanes data))) ∧
    exec (.parameterWordWrite n lanes data) s = .next
      ((s.withPart
        { s.part with
          slots := s.part.slots.set n
            { s.part.slots[n] with param := mergeLanes s.part.slots[n].param data lanes } }).pass
        (writeSome (apertureWord s.path.aps (paramOffset n)) lanes data)) ∧
    (∀ i : Nat, i < 4 →
      laneByte (mergeLanes s.part.slots[n].param data lanes) i =
        if lanes.getLsbD i = true then laneByte data i else laneByte s.part.slots[n].param i)

/-- O24. CONSUMER_WRITE: accepted on the way forward, kept with CONSUMER_RANGE otherwise. -/
def Obligations.ConsumerWriteIsJudged : Prop :=
  ∀ (v : Word) (s : State) (k C P : Nat), s.open_ → k = s.part.topo.params.ringCode → C = s.part.jrnl.consumer →
    P = s.part.jrnl.producer → C < 2 ^ k → P < 2 ^ k →
    (s.part.topo.mode ≠ .unconfigured → v.toNat < 2 ^ k →
      (v.toNat + 2 ^ k - C) % 2 ^ k ≤ (P + 2 ^ k - C) % 2 ^ k →
      exec (.consumerWrite v) s = .next
        ((s.withPart { s.part with jrnl := ({ s.part.jrnl with consumer := v.toNat } : Journal).startWrite k }).pass
          (writeFull (apertureWord s.path.aps consumerOffset) v))) ∧
    (s.counting → (2 ^ k ≤ v.toNat ∨ (P + 2 ^ k - C) % 2 ^ k < (v.toNat + 2 ^ k - C) % 2 ^ k) →
      exec (.consumerWrite v) s = .next
        ((s.withPart
          { s.part with
            jrnl := s.part.journalAfter s.part.tbase.ms
              (.violation (BitVec.ofNat 24 (apertureBase s.path.aps + consumerOffset)) .consumerRange) }).pass
          (writeFull (apertureWord s.path.aps consumerOffset) v))) ∧
    (s.part.topo.mode = .halted →
      (2 ^ k ≤ v.toNat ∨ (P + 2 ^ k - C) % 2 ^ k < (v.toNat + 2 ^ k - C) % 2 ^ k) →
      exec (.consumerWrite v) s = .next (s.pass (writeFull (apertureWord s.path.aps consumerOffset) v))) ∧
    (s.part.topo.mode = .unconfigured →
      exec (.consumerWrite v) s = .next (s.pass (writeFull (apertureWord s.path.aps consumerOffset) v)))

/-- O25. ATTN: asserted in HALTED, and while JRNL is active and the ring holds unread records. -/
def Obligations.AttnFollowsModeAndRing : Prop :=
  ∀ s : State, s.up →
    (s.attn = true ↔ s.part.topo.mode = .halted ∨
      (s.part.jrnl.active = true ∧ s.part.jrnl.producer ≠ s.part.jrnl.consumer)) ∧
    (s.part.topo.mode = .unconfigured → s.part.jrnl.active = false → s.attn = false) ∧
    (∀ (k : Nat) (v : Word), s.open_ → s.counting → k = s.part.topo.params.ringCode →
      s.part.jrnl.consumer < 2 ^ k → s.part.jrnl.producer < 2 ^ k → v.toNat < 2 ^ k →
      (v.toNat + 2 ^ k - s.part.jrnl.consumer) % 2 ^ k ≤
        (s.part.jrnl.producer + 2 ^ k - s.part.jrnl.consumer) % 2 ^ k →
      ∃ t : State, exec (.consumerWrite v) s = .next t ∧
        (v.toNat = s.part.jrnl.producer → t.attn = false) ∧
        (v.toNat ≠ s.part.jrnl.producer → t.attn = true)) ∧
    (∀ (w : JournalWord) (r : JRecord) (rest : List JRecord), s.counting → s.path.jword = some w →
      s.part.jrnl.writing = some .w0 → s.part.jrnl.queue = r :: rest →
      (∀ sum dropped, r.detail ≠ .halt sum dropped) →
      (s.part.jrnl.producer + 1) % 2 ^ s.part.topo.params.ringCode ≠ s.part.jrnl.consumer →
      ∃ t : State, exec .journalWordComplete s = .next t ∧ t.attn = true) ∧
    (s.part.topo.mode = .halted → ∀ c : Instr, c ≠ .porstAssert →
      ∃ t : State, exec c s = .next t ∧ t.attn = true) ∧
    (∀ c : Instr, c = .cpurstAssert ∨ c = .cpurstRelease → ∃ t : State, exec c s = .next t ∧ t.attn = s.attn)

/-- O26. SUPERVISION_TICK: one head's update of the pass over the heads, a failing scan included. -/
def Obligations.SupervisionTickScansOneHead : Prop :=
  ∀ (h : HeadId) (a b : Amp) (v : Word) (rest : List Word) (s : State), s.up → s.part.ticks.supv = v :: rest →
    (¬ s.part.inTurn v s.part.ticks.slowSupv → exec (.supervisionTick h a b) s = .next s) ∧
    (s.part.inTurn v s.part.ticks.slowSupv → s.part.topo.mode ≠ .running →
      exec (.supervisionTick h a b) s = .next (s.withPart
        { s.part with ticks := { s.part.ticks with supv := rest, scanNext := 0 } })) ∧
    (∀ (ca cb : AmpClass) (ea eb : Option (ScoreChange × Trigger)) (v0 v1 v2 : HeadHealth) (quiet : Bool),
      s.part.inTurn v s.part.ticks.slowSupv → s.part.topo.mode = .running → s.part.used h = true →
      s.part.hdec[h].phase ≠ .test → s.part.ticks.scanNext ≤ h.val →
      (∀ g : HeadId, s.part.ticks.scanNext ≤ g.val → g.val < h.val →
        s.part.used g = false ∨ s.part.hdec[g].phase = .test) →
      ca = s.part.topo.params.ampClass a → cb = s.part.topo.params.ampClass b →
      ea = scanEvent ca s.part.hdec[h].sensorA s.part.tbase.us →
      eb = scanEvent cb s.part.hdec[h].sensorB s.part.tbase.us →
      v0 = { s.part.supv[h] with classA := some ca, classB := some cb } → v1 = v0.scored ea → v2 = v1.scored eb →
      quiet = decide (ca = .normal ∧ cb = .normal ∧ s.part.hdec[h].sensorA.damped = false ∧
        s.part.hdec[h].sensorB.damped = false ∧
        s.part.supv[h].refTimes = some (s.part.hdec[h].sensorA.edgeTime, s.part.hdec[h].sensorB.edgeTime)) →
      ∃ t : State, exec (.supervisionTick h a b) s = .next t ∧
        (s.part.supv[h].health ≠ .recovering →
          t.part.supv[h] = v2 ∧
          (s.part.jrnl.active = true → s.part.twoSections h →
            t.part.jrnl = s.part.scoreJournal v h eb (some .sysB) v1 v2
              (s.part.scoreJournal v h ea (some .sysA) v0 v1 s.part.jrnl))) ∧
        (s.part.supv[h].health = .recovering → s.part.supv[h].quiet < 249 ∨ quiet = false →
          t.part.supv[h] =
            { v0 with
              quiet := if quiet = true then s.part.supv[h].quiet + 1 else 0
              refTimes := some (s.part.hdec[h].sensorA.edgeTime, s.part.hdec[h].sensorB.edgeTime) } ∧
          t.part.jrnl = s.part.jrnl ∧ t.part.slots = s.part.slots) ∧
        (t.part.supv[h].health ≠ .failed ∨ s.part.supv[h].health = .failed →
          t.part.hdec = s.part.hdec ∧ t.part.scnt = s.part.scnt ∧
          (s.part.supv[h].health ≠ .recovering → t.part.slots = s.part.slots)) ∧
        (t.part.supv[h].health = .failed → s.part.supv[h].health ≠ .failed →
          t.part.hdec[h] = s.part.hdec[h].off ∧
          (s.part.twoSections h →
            (∀ i ∈ s.part.adjacent h, t.part.scnt[i] = s.part.scnt[i].disturbed .headFailed) ∧
            (∀ n : SlotId, t.part.slots[n] = s.part.slotDisturbed h n)) ∧
          (∀ i : SectionId, i ∉ s.part.adjacent h → t.part.scnt[i] = s.part.scnt[i])) ∧
        (s.part.supv[h].health ≠ .recovering ∨ s.part.supv[h].quiet < 249 ∨ quiet = false →
          t.part.sent =
            if t.part.supv[h].health = .failed ∧ s.part.supv[h].health ≠ .failed then
              { s.part.sent with
                supv := s.part.sent.supv.filter fun x => decide (x.head ≠ h)
                stale := s.part.sent.stale ++ s.part.sent.supv.filter fun x => decide (x.head = h) }
            else s.part.sent) ∧
        (s.part.supv[h].agrees → t.part.supv[h].health = s.part.supv[h].health →
          t.part.slots = s.part.slots ∧ t.part.jrnl = s.part.jrnl) ∧
        ((∀ g : HeadId, h.val < g.val → s.part.used g = false ∨ s.part.hdec[g].phase = .test) →
          t.part.ticks = { s.part.ticks with supv := rest, scanNext := 0 }) ∧
        ((∃ g : HeadId, h.val < g.val ∧ s.part.used g = true ∧ s.part.hdec[g].phase ≠ .test) →
          t.part.ticks = { s.part.ticks with scanNext := h.val + 1 }) ∧
        (∀ g : HeadId, g ≠ h → t.part.supv[g] = s.part.supv[g] ∧ t.part.hdec[g] = s.part.hdec[g]) ∧
        t.part.gen = s.part.gen ∧ t.part.topo = s.part.topo ∧ t.part.tbase = s.part.tbase ∧
        t.path = s.path ∧ t.mem = s.mem)

/-- O27. The five classes of a sample. -/
def Obligations.AmplitudeClasses : Prop :=
  ∀ (c : Params) (a : Amp), c.openMax < c.dampedLow → c.dampedLow ≤ c.dampedHigh → c.dampedHigh < c.normalLow →
    c.normalLow ≤ c.normalHigh → c.normalHigh < c.shortMin →
    (c.ampClass a = .open_ ↔ a.toNat ≤ c.openMax) ∧
    (c.ampClass a = .damped ↔ c.dampedLow ≤ a.toNat ∧ a.toNat ≤ c.dampedHigh) ∧
    (c.ampClass a = .normal ↔ c.normalLow ≤ a.toNat ∧ a.toNat ≤ c.normalHigh) ∧
    (c.ampClass a = .short ↔ c.shortMin ≤ a.toNat) ∧
    (c.ampClass a = .indeterminate ↔
      (c.openMax < a.toNat ∧ a.toNat < c.dampedLow) ∨ (c.dampedHigh < a.toNat ∧ a.toNat < c.normalLow) ∨
        (c.normalHigh < a.toNat ∧ a.toNat < c.shortMin))

/-- O28. The scan score events, and the health state after a change of the score. -/
def Obligations.ScanEventsAndHealthTable : Prop :=
  (∀ (x : Sensor) (us : Word) (stable : Prop), (stable ↔ x.edgeAge ≥ 15 ∨ 2000 ≤ (us - x.edgeTime).toNat) →
      scanEvent .open_ x us = some (.up 64, .scanOpen) ∧
      scanEvent .short x us = some (.up 64, .scanShort) ∧
      scanEvent .indeterminate x us = some (.up 4, .scanIndeterminate) ∧
      (x.damped = true → scanEvent .damped x us = none) ∧
      (x.damped = false → stable → scanEvent .damped x us = some (.up 8, .scanDisagree)) ∧
      (x.damped = false → ¬stable → scanEvent .damped x us = none) ∧
      (x.damped = false → scanEvent .normal x us = none) ∧
      (x.damped = true → stable → scanEvent .normal x us = some (.up 8, .scanDisagree)) ∧
      (x.damped = true → ¬stable → scanEvent .normal x us = none)) ∧
    (∀ n k : Nat, n ≤ 255 →
      (ScoreChange.up k).apply n = (if 255 < n + k then 255 else n + k) ∧
      (ScoreChange.down k).apply n = (if n < k then 0 else n - k)) ∧
    (∀ n : Nat,
      (224 ≤ n → healthAfter .healthy n = .failed ∧ healthAfter .marginal n = .failed ∧
        healthAfter .degraded n = .failed) ∧
      (112 ≤ n → n ≤ 223 → healthAfter .healthy n = .degraded ∧ healthAfter .marginal n = .degraded) ∧
      (48 ≤ n → n ≤ 111 → healthAfter .healthy n = .marginal) ∧
      (n < 48 → healthAfter .healthy n = .healthy) ∧
      (32 ≤ n → n ≤ 111 → healthAfter .marginal n = .marginal) ∧
      (n < 32 → healthAfter .marginal n = .healthy ∧ healthAfter .degraded n = .healthy) ∧
      (96 ≤ n → n ≤ 223 → healthAfter .degraded n = .degraded) ∧
      (32 ≤ n → n ≤ 95 → healthAfter .degraded n = .marginal))

/-- O29. The five score reports: separation, glitch, clean passage, test passed, test failed. -/
def Obligations.ReportsChangeScore : Prop :=
  ∀ (h : HeadId) (s : State) (c : Instr) (m : ToSupv) (e : ScoreChange) (g : Trigger) (test : Bool),
    (c, m, e, g, test) ∈
      [(.separationFaultReport h, .separationFault h, .up 32, .separation, false),
        (.glitchReport h, .glitch h, .up 8, .glitch, false),
        (.cleanPassageReport h, .cleanPassage h, .down 1, .cleanPassage, false),
        (.testPassedReport h, .testPassed h, .down 16, .testPass, true),
        (.testFailedReport h, .testFailed h, .up 64, .testFail, true)] →
    s.up →
    (m ∈ s.part.sent.stale →
      exec c s = .next (s.withPart
        { s.part with
          sent := { s.part.sent with stale := s.part.sent.stale.erase m }
          gen := if test = true then { s.part.gen with reportPending := false } else s.part.gen })) ∧
    (m ∈ s.part.sent.supv → m ∉ s.part.sent.stale → s.part.hdec[h].phase = .test → exec c s = .next s) ∧
    (m ∈ s.part.sent.supv → m ∉ s.part.sent.stale → s.part.hdec[h].phase ≠ .test →
      ∃ t : State, exec c s = .next t ∧
        (s.part.topo.mode = .running → t.part.supv[h] = s.part.supv[h].scored (some (e, g))) ∧
        (s.part.topo.mode ≠ .running → t.part.supv = s.part.supv) ∧
        (∀ k : HeadId, k ≠ h → t.part.supv[k] = s.part.supv[k]) ∧
        t.part.sent =
          (if t.part.supv[h].health = .failed ∧ s.part.supv[h].health ≠ .failed then
            { s.part.sent with
              supv := (s.part.sent.supv.erase m).filter fun x => decide (x.head ≠ h)
              stale := s.part.sent.stale ++ (s.part.sent.supv.erase m).filter fun x => decide (x.head = h) }
          else { s.part.sent with supv := s.part.sent.supv.erase m }) ∧
        t.part.gen = (if test = true then { s.part.gen with reportPending := false } else s.part.gen) ∧
        (t.part.supv[h].health ≠ .failed ∨ s.part.supv[h].health = .failed →
          t.part.hdec = s.part.hdec ∧ t.part.scnt = s.part.scnt ∧ t.part.slots = s.part.slots) ∧
        (t.part.supv[h].health = s.part.supv[h].health → t.part.jrnl = s.part.jrnl) ∧
        (s.counting → t.part.supv[h].health ≠ s.part.supv[h].health → t.part.supv[h].health ≠ .failed →
          t.part.jrnl = s.part.journalAfter s.part.tbase.ms
            (.head h s.part.supv[h].health t.part.supv[h].health t.part.supv[h].score g none)) ∧
        t.part.topo = s.part.topo ∧ t.part.tbase = s.part.tbase ∧ t.path = s.path ∧ t.mem = s.mem)

/-- O30. A score report that fails a head: OFF, the adjacent sections, the sweeps broken and the records, in one update. -/
def Obligations.HeadFailureStopsHeadAndSections : Prop :=
  ∀ (h : HeadId) (s : State) (c : Instr) (m : ToSupv) (n : Nat) (g : Trigger),
    (c, m, n, g) ∈ [(.separationFaultReport h, .separationFault h, 32, .separation),
      (.glitchReport h, .glitch h, 8, .glitch), (.testFailedReport h, .testFailed h, 64, .testFail)] →
    s.counting → m ∈ s.part.sent.supv → m ∉ s.part.sent.stale → s.part.hdec[h].phase ≠ .test →
    s.part.supv[h].health ∈ [.healthy, .marginal, .degraded] → s.part.supv[h].score ≤ 223 →
    224 ≤ s.part.supv[h].score + n → s.part.twoSections h →
    ∃ t : State, exec c s = .next t ∧ t.part.supv[h].health = .failed ∧
      t.part.supv[h].score = min 255 (s.part.supv[h].score + n) ∧
      t.part.hdec[h] = s.part.hdec[h].off ∧
      (∀ k : HeadId, k ≠ h → t.part.hdec[k] = s.part.hdec[k] ∧ t.part.supv[k] = s.part.supv[k]) ∧
      (∀ i ∈ s.part.adjacent h, t.part.scnt[i] = s.part.scnt[i].disturbed .headFailed) ∧
      (∀ i : SectionId, i ∉ s.part.adjacent h → t.part.scnt[i] = s.part.scnt[i]) ∧
      (∀ k : SlotId, t.part.slots[k] = s.part.slotDisturbed h k) ∧
      t.part.jrnl = s.part.failureJournal s.part.tbase.ms h
        (s.part.journalAfter s.part.tbase.ms
          (.head h s.part.supv[h].health .failed (min 255 (s.part.supv[h].score + n)) g none)) ∧
      t.part.sent =
        { s.part.sent with
          supv := (s.part.sent.supv.erase m).filter fun x => decide (x.head ≠ h)
          stale := s.part.sent.stale ++ (s.part.sent.supv.erase m).filter fun x => decide (x.head = h) } ∧
      t.part.topo = s.part.topo ∧ t.path = s.path ∧ t.mem = s.mem

/-- O31. RECOVERY_COMPLETE and RECOVERY_REPORT: the 250th quiet tick, and HDEC's taking of the report. -/
def Obligations.RecoveryCompletesAndHeadReturns : Prop :=
  (∀ (h : HeadId) (n : SlotId) (a b : Amp) (v : Word) (rest : List Word) (s : State), s.counting →
      s.part.ticks.supv = v :: rest → s.part.inTurn v s.part.ticks.slowSupv → s.part.used h = true → s.part.hdec[h].phase ≠ .test →
      s.part.ticks.scanNext ≤ h.val →
      (∀ g : HeadId, s.part.ticks.scanNext ≤ g.val → g.val < h.val →
        s.part.used g = false ∨ s.part.hdec[g].phase = .test) →
      s.part.supv[h].health = .recovering → s.part.supv[h].quiet = 249 → s.part.supv[h].restartSlot = some n →
      s.part.topo.params.ampClass a = .normal → s.part.topo.params.ampClass b = .normal →
      s.part.hdec[h].sensorA.damped = false → s.part.hdec[h].sensorB.damped = false →
      s.part.supv[h].refTimes = some (s.part.hdec[h].sensorA.edgeTime, s.part.hdec[h].sensorB.edgeTime) →
      s.part.slots[n].busy = true → s.part.slots[n].kind = 3#8 → s.part.slots[n].target.toNat = h.val →
      exec (.recoveryComplete h a b) s = exec (.supervisionTick h a b) s ∧
      ∃ t : State, exec (.recoveryComplete h a b) s = .next t ∧
        t.part.supv[h] =
          { health := .healthy, score := 0, classA := some .normal, classB := some .normal, quiet := 0,
            restartCount := 0, refTimes := none, restartSlot := none } ∧
        t.part.slots[n] = { s.part.slots[n] with state := .done, result := some .ok } ∧
        t.part.jrnl =
          (s.part.journalAfter v (.head h .recovering .healthy 0 .recovered none)).take
            s.part.topo.params.ringCode v (.request n 3#8 s.part.slots[n].target s.part.slots[n].token .ok) ∧
        t.part.sent = { s.part.sent with recovered := s.part.sent.recovered ++ [h] } ∧
        (∀ g : HeadId, g ≠ h → t.part.supv[g] = s.part.supv[g]) ∧
        (∀ m : SlotId, m ≠ n → t.part.slots[m] = s.part.slots[m]) ∧
        t.part.hdec = s.part.hdec ∧ t.part.scnt = s.part.scnt ∧ t.part.gen = s.part.gen ∧
        t.part.topo = s.part.topo ∧ t.path = s.path ∧ t.mem = s.mem) ∧
    (∀ (h : HeadId) (a b : Amp) (s : State), s.up →
      (s.part.supv[h].health ≠ .recovering ∨ s.part.supv[h].quiet < 249 ∨
        s.part.topo.params.ampClass a ≠ .normal ∨ s.part.topo.params.ampClass b ≠ .normal ∨
        s.part.hdec[h].sensorA.damped = true ∨ s.part.hdec[h].sensorB.damped = true ∨
        s.part.supv[h].refTimes ≠
          some (s.part.hdec[h].sensorA.edgeTime, s.part.hdec[h].sensorB.edgeTime)) →
      exec (.recoveryComplete h a b) s = .next s) ∧
    (∀ (h : HeadId) (s : State), s.up → h ∈ s.part.sent.recovered →
      (s.part.topo.mode = .running → s.part.supv[h].health ∈ [.healthy, .marginal, .degraded] →
        s.part.hdec[h].phase = .off →
        exec (.recoveryReport h) s = .next (s.withPart
          { s.part with
            hdec := s.part.hdec.set h (s.part.hdec[h].placed s.part.tbase.ms)
            sent := { s.part.sent with recovered := s.part.sent.recovered.erase h } })) ∧
      (s.part.topo.mode ≠ .running ∨ s.part.supv[h].health ∉ [.healthy, .marginal, .degraded] →
        exec (.recoveryReport h) s = .next (s.withPart
          { s.part with sent := { s.part.sent with recovered := s.part.sent.recovered.erase h } })))

/-- O32. SLOW_TICK at SUPV and RESTART_TIMEOUT: the restart-limit counts and the time limit. -/
def Obligations.SlowTickCountsAndEndsRestarts : Prop :=
  ∀ (s : State) (v : Word) (rest : List Word), s.up → s.part.ticks.slowSupv = v :: rest →
    (¬ s.part.slowInTurn v →
      exec (.slowTick .supv) s = .next s ∧ ∀ h : HeadId, exec (.restartTimeout h) s = .next s) ∧
    (∀ h : HeadId, s.part.topo.mode ≠ .running ∨ ¬ s.part.runsOut h → exec (.restartTimeout h) s = .next s) ∧
    (s.part.slowInTurn v → s.part.topo.mode = .running →
      ∃ t : State, exec (.slowTick .supv) s = .next t ∧
        (∀ h : HeadId, s.part.supv[h].health = .recovering →
          s.part.supv[h].restartCount + 1 < s.part.topo.params.restartLimit →
          t.part.supv[h] = { s.part.supv[h] with restartCount := s.part.supv[h].restartCount + 1 }) ∧
        (∀ h : HeadId, s.part.supv[h].health = .recovering →
          s.part.topo.params.restartLimit ≤ s.part.supv[h].restartCount + 1 →
          t.part.supv[h] =
            { s.part.supv[h] with
              health := .failed
              quiet := 0
              restartCount := 0
              refTimes := none
              restartSlot := none } ∧
          exec (.restartTimeout h) s = .next t) ∧
        (∀ h : HeadId, s.part.supv[h].health ≠ .recovering → t.part.supv[h] = s.part.supv[h]) ∧
        (∀ n : SlotId,
          t.part.slots[n] =
            if s.part.slots[n].busy = true ∧ s.part.slots[n].kind = 3#8 ∧
              ∃ h : HeadId, s.part.slots[n].target.toNat = h.val ∧ s.part.supv[h].restartSlot = some n ∧
                s.part.runsOut h then
              { s.part.slots[n] with state := .failed, result := some .timeout }
            else s.part.slots[n]) ∧
        (s.part.jrnl.active = true →
          t.part.jrnl =
            allHeads.foldl
              (fun j h =>
                if s.part.runsOut h then
                  s.part.reportJournal v s.part.supv[h].restartSlot 3#8 h.val .timeout
                    (j.take s.part.topo.params.ringCode v
                      (.head h .recovering .failed s.part.supv[h].score .restartTimeout none))
                else j)
              s.part.jrnl) ∧
        t.part.ticks = { s.part.ticks with slowSupv := rest } ∧ t.part.hdec = s.part.hdec ∧
        t.part.scnt = s.part.scnt ∧ t.part.gen = s.part.gen ∧ t.part.topo = s.part.topo ∧
        t.part.sent = s.part.sent ∧ t.path = s.path ∧ t.mem = s.mem) ∧
    (s.part.slowInTurn v → s.part.topo.mode ≠ .running →
      exec (.slowTick .supv) s = .next (s.withPart { s.part with ticks := { s.part.ticks with slowSupv := rest } }))

/-- O33. MID_STEP_SAMPLE, SAMPLE_REQUEST and MID_SAMPLE_ANSWER. -/
def Obligations.MidStepSampleAskedAndAnswered : Prop :=
  ∀ (s : State), s.up →
    (∀ (h : HeadId) (t0 : Word), s.part.gen.state = .running → s.part.gen.tickDue = true →
      s.part.gen.target = some h → s.part.gen.step = 2 → s.part.gen.stepStart = some t0 →
      s.part.tbase.ms = t0 + BitVec.ofNat 32 (s.part.topo.params.stepTime / 2) →
      exec .midStepSample s = .next (s.withPart
        { s.part with
          gen :=
            { s.part.gen with
              tickDue := false
              followOpen := s.part.gen.followOpen && !decide (s.part.tbase.ms = t0 + 1#32) }
          sent :=
            { s.part.sent with
              asks := s.part.sent.asks ++ [{ h := h, serial := s.part.gen.serial }] } })) ∧
    (∀ (a b : Amp) (q : SampleAsk) (rest : List SampleAsk), s.part.topo.mode = .running →
      s.part.sent.asks = q :: rest →
      exec (.sampleRequest a b) s = .next (s.withPart
        { s.part with
          sent :=
            { s.part.sent with
              asks := rest
              answers := s.part.sent.answers ++
                [{ classA := s.part.topo.params.ampClass a, classB := s.part.topo.params.ampClass b,
                   serial := q.serial }] } })) ∧
    (∀ (a : SampleAnswer) (rest : List SampleAnswer), s.part.sent.answers = a :: rest →
      ((a.classA = .damped ∧ a.classB = .damped) ∨ s.part.gen.state ≠ .running ∨ s.part.gen.step ≠ 2 ∨
        s.part.gen.serial ≠ a.serial) →
      exec .midSampleAnswer s = .next (s.withPart
        { s.part with sent := { s.part.sent with answers := rest } })) ∧
    (∀ (a : SampleAnswer) (rest : List SampleAnswer) (h : HeadId) (n : SlotId) (d : Direction),
      s.part.sent.answers = a :: rest → ¬(a.classA = .damped ∧ a.classB = .damped) → s.part.gen.state = .running →
      s.part.gen.step = 2 → s.part.gen.serial = a.serial → s.part.gen.target = some h →
      s.part.gen.slot = some n → s.part.gen.direction = some d → s.part.slots[n].busy = true →
      s.part.slots[n].kind = 4#8 → s.part.slots[n].target.toNat = h.val →
      ∃ t : State, exec .midSampleAnswer s = .next t ∧
        t.part.gen.state = .releasing ∧ t.part.gen.target = some h ∧ t.part.gen.slot = none ∧
        t.part.gen.releaseLeft = some 5 ∧ t.part.gen.releaseA = s.part.hdec[h].sensorA.damped ∧
        t.part.gen.releaseB = s.part.hdec[h].sensorB.damped ∧ t.part.gen.reportPending = true ∧
        t.part.hdec = s.part.hdec.set h (s.part.hdec[h].placed s.part.tbase.ms) ∧
        t.part.slots = s.part.slots.set n { s.part.slots[n] with state := .failed, result := some .testFail } ∧
        (s.counting →
          t.part.jrnl = (s.part.journalAfter s.part.tbase.ms (.test h d .fail (some 2) (some .midSample))).take
            s.part.topo.params.ringCode s.part.tbase.ms
            (.request n 4#8 s.part.slots[n].target s.part.slots[n].token .testFail)) ∧
        t.part.sent =
          { s.part.sent with answers := rest, supv := s.part.sent.supv ++ [.testFailed h] } ∧
        t.part.scnt = s.part.scnt ∧ t.part.supv = s.part.supv ∧ t.part.topo = s.part.topo ∧
        t.path = s.path ∧ t.mem = s.mem)

/-- O34. PATTERN_START, FOLLOW_WINDOW_CLOSE and the test drive lines. -/
def Obligations.PatternStartsAndFollowWindowCloses : Prop :=
  (∀ (s : State) (d : Direction), s.up → s.part.gen.state = .running → s.part.gen.tickDue = true →
      s.part.gen.direction = some d →
      (s.part.gen.step = 0 →
        exec .patternStart s = .next (s.withPart
          { s.part with
            gen :=
              { s.part.gen with
                tickDue := false
                step := 1
                stepStart := some s.part.tbase.ms
                stepDeadline := some (s.part.tbase.ms + BitVec.ofNat 32 s.part.topo.params.stepTime)
                expectA := decide (d = .aToB)
                expectB := decide (d = .bToA)
                response := false
                followOpen := true } })) ∧
      (∀ h : HeadId, s.part.gen.target = some h → 1 ≤ s.part.gen.step → s.part.gen.followOpen = true →
        s.part.gen.stepStart = some (s.part.tbase.ms - 1#32) →
        exec .followWindowClose s = .next (s.withPart
          { s.part with
            gen := { s.part.gen with followOpen := false, tickDue := false }
            sent :=
              { s.part.sent with
                asks := s.part.sent.asks ++
                  if s.part.gen.step = 2 ∧ s.part.gen.stepStart =
                      some (s.part.tbase.ms - BitVec.ofNat 32 (s.part.topo.params.stepTime / 2)) then
                    [{ h := h, serial := s.part.gen.serial }]
                  else [] } }))) ∧
    (∀ (g : Generator) (h : HeadId),
      (g.state = .running → g.target = some h →
        g.drive h .sysA = g.expectA ∧ g.drive h .sysB = g.expectB) ∧
      (∀ y : System, g.target ≠ some h → g.drive h y = false) ∧
      (∀ y : System, g.state = .idle ∨ g.state = .releasing → g.drive h y = false))

/-- O35. EDGE_COPY: expected, aborting, releasing, and with the generator IDLE. -/
def Obligations.EdgeCopyIsJudged : Prop :=
  (∀ (s : State) (c : EdgeCopy) (rest : List EdgeCopy), s.up → s.part.sent.copies = c :: rest →
    s.part.gen.state = .idle →
    exec .edgeCopy s = .next (s.withPart { s.part with sent := { s.part.sent with copies := rest } })) ∧
  (∀ (s : State) (c : EdgeCopy) (rest : List EdgeCopy) (d : Direction), s.counting →
      s.part.sent.copies = c :: rest → s.part.gen.direction = some d →
      (s.part.gen.target ≠ some c.h →
        exec .edgeCopy s = .next (s.withPart { s.part with sent := { s.part.sent with copies := rest } })) ∧
      (s.part.gen.target = some c.h → s.part.gen.state = .running →
        (s.part.gen.step, d, c.y, c.d) ∈
          [(1, .aToB, .sysA, .rising), (2, .aToB, .sysB, .rising), (3, .aToB, .sysA, .falling),
            (4, .aToB, .sysB, .falling), (1, .bToA, .sysB, .rising), (2, .bToA, .sysA, .rising),
            (3, .bToA, .sysB, .falling), (4, .bToA, .sysA, .falling)] →
        s.part.gen.followOpen = true → s.part.gen.response = false →
        exec .edgeCopy s = .next (s.withPart
          { s.part with
            sent := { s.part.sent with copies := rest }
            gen := { s.part.gen with response := true } })) ∧
      (s.part.gen.target = some c.h → s.part.gen.state = .running →
        ((s.part.gen.step, d, c.y, c.d) ∉
          [(1, .aToB, .sysA, .rising), (2, .aToB, .sysB, .rising), (3, .aToB, .sysA, .falling),
            (4, .aToB, .sysB, .falling), (1, .bToA, .sysB, .rising), (2, .bToA, .sysA, .rising),
            (3, .bToA, .sysB, .falling), (4, .bToA, .sysA, .falling)] ∨
          s.part.gen.followOpen = false ∨ s.part.gen.response = true) →
        ∃ t : State, exec .edgeCopy s = .next t ∧ t.part.gen.state = .idle ∧ t.part.gen.target = none ∧
          t.part.gen.slot = none ∧ t.part.gen.expectA = false ∧ t.part.gen.expectB = false ∧
          t.part.hdec[c.h] = s.part.hdec[c.h].placed s.part.tbase.ms ∧
          (∀ g : HeadId, g ≠ c.h → t.part.hdec[g] = s.part.hdec[g]) ∧
          (∀ i : SectionId, i ∉ s.part.adjacent c.h → t.part.scnt[i] = s.part.scnt[i]) ∧
          (s.part.twoSections c.h →
            (∀ i ∈ s.part.adjacent c.h, t.part.scnt[i] = s.part.scnt[i].disturbed .testAbort) ∧
            (∀ n : SlotId,
              t.part.slots[n] =
                if s.part.gen.slot = some n ∧ s.part.slots[n].busy = true ∧ s.part.slots[n].kind = 4#8 ∧
                  s.part.slots[n].target.toNat = c.h.val then
                  { s.part.slots[n] with state := .failed, result := some .testAbort }
                else s.part.slotDisturbed c.h n) ∧
            t.part.jrnl = s.part.reportJournal s.part.tbase.ms s.part.gen.slot 4#8 c.h.val .testAbort
              (s.part.disturbJournal s.part.tbase.ms c.h .testAbort
                (s.part.journalAfter s.part.tbase.ms
                  (.test c.h d .abort (if s.part.gen.step = 0 then none else some s.part.gen.step)
                    (some .unexpectedEdge))))) ∧
          t.part.sent = { s.part.sent with copies := rest } ∧ t.part.supv = s.part.supv ∧
          t.part.topo = s.part.topo ∧ t.path = s.path ∧ t.mem = s.mem) ∧
      (s.part.gen.target = some c.h → s.part.gen.state = .releasing → c.d = .falling →
        (c.y = .sysA → s.part.gen.releaseA = true →
          exec .edgeCopy s = .next (s.withPart
            { s.part with
              sent := { s.part.sent with copies := rest }
              gen := { s.part.gen with releaseA := false } })) ∧
        (c.y = .sysB → s.part.gen.releaseB = true →
          exec .edgeCopy s = .next (s.withPart
            { s.part with
              sent := { s.part.sent with copies := rest }
              gen := { s.part.gen with releaseB := false } }))) ∧
      (s.part.gen.target = some c.h → s.part.gen.state = .releasing →
        (c.d = .rising ∨ (c.y = .sysA ∧ s.part.gen.releaseA = false) ∨ (c.y = .sysB ∧ s.part.gen.releaseB = false)) →
        ∃ t : State, exec .edgeCopy s = .next t ∧ t.part.gen.state = .idle ∧ t.part.gen.target = none ∧
          t.part.sent = { s.part.sent with copies := rest, scnt := s.part.sent.scnt ++ [.testAbort c.h] } ∧
          t.part.jrnl = s.part.journalAfter s.part.tbase.ms
            (.test c.h d .releaseAbort none (some .unexpectedEdge)) ∧
          t.part.hdec = s.part.hdec ∧ t.part.scnt = s.part.scnt ∧ t.part.supv = s.part.supv ∧
          t.part.slots = s.part.slots ∧ t.part.topo = s.part.topo ∧ t.path = s.path ∧ t.mem = s.mem))

/-- O36. STEP_DEADLINE: missing response, next step, pass, no passage. -/
def Obligations.StepDeadlineEndsStep : Prop :=
  ∀ (s : State) (h : HeadId) (n : SlotId) (d : Direction), s.counting → s.part.gen.state = .running →
    s.part.gen.tickDue = true → s.part.gen.target = some h → s.part.gen.slot = some n →
    s.part.gen.direction = some d → 1 ≤ s.part.gen.step → s.part.gen.step ≤ 4 →
    s.part.gen.stepDeadline = some s.part.tbase.ms →
    s.part.slots[n].busy = true → s.part.slots[n].kind = 4#8 → s.part.slots[n].target.toNat = h.val →
    (s.part.gen.response = true → s.part.gen.step < 4 →
      exec .stepDeadline s = .next (s.withPart
        { s.part with
          gen :=
            { s.part.gen with
              tickDue := false
              step := s.part.gen.step + 1
              stepStart := some s.part.tbase.ms
              stepDeadline := some (s.part.tbase.ms + BitVec.ofNat 32 s.part.topo.params.stepTime)
              expectA := if d = .aToB then decide (s.part.gen.step + 1 = 2)
                else decide (s.part.gen.step + 1 ≠ 4)
              expectB := if d = .aToB then decide (s.part.gen.step + 1 ≠ 4)
                else decide (s.part.gen.step + 1 = 2)
              response := false
              followOpen := true } })) ∧
    (s.part.gen.response = true → s.part.gen.step = 4 → s.part.gen.outcomes = [(.counted, d)] →
      s.part.gen.shadowSeparation = false →
      ∃ t : State, exec .stepDeadline s = .next t ∧
        t.part.gen.state = .idle ∧ t.part.gen.target = none ∧ t.part.gen.slot = none ∧
        t.part.gen.direction = none ∧ t.part.gen.reportPending = true ∧
        (s.part.hdec[h].sensorA.damped = false → s.part.hdec[h].sensorB.damped = false →
          t.part.hdec[h].phase = .idle) ∧
        t.part.hdec = s.part.hdec.set h (s.part.hdec[h].placed s.part.tbase.ms) ∧
        t.part.slots = s.part.slots.set n { s.part.slots[n] with state := .done, result := some .ok } ∧
        t.part.jrnl = (s.part.journalAfter s.part.tbase.ms (.test h d .pass none none)).take
          s.part.topo.params.ringCode s.part.tbase.ms
          (.request n 4#8 s.part.slots[n].target s.part.slots[n].token .ok) ∧
        t.part.sent = { s.part.sent with supv := s.part.sent.supv ++ [.testPassed h] } ∧
        t.part.scnt = s.part.scnt ∧ t.part.supv = s.part.supv ∧ t.part.topo = s.part.topo ∧
        t.path = s.path ∧ t.mem = s.mem) ∧
    (∀ check : TestCheck,
      (s.part.gen.response = false ∧ check = .missingResponse) ∨
        (s.part.gen.response = true ∧ s.part.gen.step = 4 ∧ check = .noPassage ∧
          (s.part.gen.outcomes ≠ [(.counted, d)] ∨ s.part.gen.shadowSeparation = true)) →
      ∃ t : State, exec .stepDeadline s = .next t ∧
        t.part.gen.state = .releasing ∧ t.part.gen.target = some h ∧ t.part.gen.slot = none ∧
        t.part.gen.direction = some d ∧ t.part.gen.releaseLeft = some 5 ∧
        t.part.gen.releaseA = s.part.hdec[h].sensorA.damped ∧
        t.part.gen.releaseB = s.part.hdec[h].sensorB.damped ∧ t.part.gen.reportPending = true ∧
        t.part.gen.expectA = false ∧ t.part.gen.expectB = false ∧
        t.part.hdec = s.part.hdec.set h (s.part.hdec[h].placed s.part.tbase.ms) ∧
        t.part.slots = s.part.slots.set n { s.part.slots[n] with state := .failed, result := some .testFail } ∧
        t.part.jrnl = (s.part.journalAfter s.part.tbase.ms
          (.test h d .fail (some s.part.gen.step) (some check))).take
          s.part.topo.params.ringCode s.part.tbase.ms
          (.request n 4#8 s.part.slots[n].target s.part.slots[n].token .testFail) ∧
        t.part.sent = { s.part.sent with supv := s.part.sent.supv ++ [.testFailed h] } ∧
        t.part.scnt = s.part.scnt ∧ t.part.supv = s.part.supv ∧ t.part.topo = s.part.topo ∧
        t.path = s.path ∧ t.mem = s.mem)

/-- O37. RELEASE_TIME_END, and what TGEN does with each ms tick: the release deadline, the ticks that stay in hand. -/
def Obligations.ReleaseTimeEndJudgesHead : Prop :=
  (∀ (s : State) (h : HeadId) (d : Direction), s.counting → s.part.gen.state = .releasing →
      s.part.gen.tickDue = true → s.part.gen.releaseLeft = some 1 → s.part.gen.target = some h →
      s.part.gen.direction = some d →
      ∃ t : State, exec .releaseTimeEnd s = .next t ∧ t.part.gen.state = .idle ∧ t.part.gen.target = none ∧
        t.part.gen.direction = none ∧ t.part.gen.releaseLeft = none ∧
        t.part.gen.reportPending = s.part.gen.reportPending ∧
        (s.part.hdec[h].phase = .unsettled →
          t.part.sent = { s.part.sent with scnt := s.part.sent.scnt ++ [.testAbort h] } ∧
          t.part.jrnl = s.part.journalAfter s.part.tbase.ms (.test h d .releaseAbort none (some .notIdle))) ∧
        (s.part.hdec[h].phase ∈ [.idle, .off] → t.part.sent = s.part.sent ∧ t.part.jrnl = s.part.jrnl) ∧
        t.part.hdec = s.part.hdec ∧ t.part.scnt = s.part.scnt ∧ t.part.supv = s.part.supv ∧
        t.part.slots = s.part.slots ∧ t.part.topo = s.part.topo ∧ t.path = s.path ∧ t.mem = s.mem) ∧
    (∀ (g : Generator) (ms : Word) (t : Nat),
      (g.state = .idle → g.giveTick ms t = { g with tickDue := false }) ∧
      (∀ n : Nat, g.state = .releasing → g.releaseLeft = some (n + 2) →
        g.giveTick ms t = { g with releaseLeft := some (n + 1), tickDue := false }) ∧
      (g.state = .releasing → g.releaseLeft = some 1 → g.giveTick ms t = { g with tickDue := true }) ∧
      (g.state = .running →
        g.giveTick ms t =
          { g with
            tickDue := decide (g.step = 0 ∨
              (1 ≤ g.step ∧ g.followOpen = true ∧ g.stepStart = some (ms - 1#32)) ∨
              (g.step = 2 ∧ g.stepStart = some (ms - BitVec.ofNat 32 (t / 2))) ∨
              (1 ≤ g.step ∧ g.stepDeadline = some ms)) })) ∧
    (∀ s : State, s.up → s.part.gen.tickDue = true → (∀ h : HeadId, ¬ s.part.dwells h) →
      (∀ n : Nat, s.part.gen.state = .releasing → s.part.gen.releaseLeft = some (n + 2) →
        s.part.lastTickTaken =
          { s.part with gen := { s.part.gen with releaseLeft := some (n + 1), tickDue := false } }) ∧
      (s.part.gen.state = .releasing → s.part.gen.releaseLeft = some 1 →
        exec .releaseTimeEnd s = .next (s.withPart s.part.lastTickTaken)) ∧
      (s.part.gen.state = .running → s.part.gen.step = 0 →
        exec .patternStart s = .next (s.withPart s.part.lastTickTaken)) ∧
      (s.part.gen.state = .running → 1 ≤ s.part.gen.step → s.part.gen.followOpen = true →
        s.part.gen.stepStart = some (s.part.tbase.ms - 1#32) →
        exec .followWindowClose s = .next (s.withPart s.part.lastTickTaken)) ∧
      (s.part.gen.state = .running → s.part.gen.step = 2 →
        s.part.gen.stepStart = some (s.part.tbase.ms - BitVec.ofNat 32 (s.part.topo.params.stepTime / 2)) →
        exec .midStepSample s = .next (s.withPart s.part.lastTickTaken)) ∧
      (s.part.gen.state = .running → 1 ≤ s.part.gen.step →
        s.part.gen.stepDeadline = some s.part.tbase.ms →
        ¬(s.part.gen.followOpen = true ∧ s.part.gen.stepStart = some (s.part.tbase.ms - 1#32)) →
        ¬(s.part.gen.step = 2 ∧
          s.part.gen.stepStart = some (s.part.tbase.ms - BitVec.ofNat 32 (s.part.topo.params.stepTime / 2))) →
        exec .stepDeadline s = .next (s.withPart s.part.lastTickTaken)))

/-- O38. TOPOLOGY_WRITE and SHADOW_CORRUPTION: what changes a place of the shadow. -/
def Obligations.ShadowTakesWritesAndCorruption : Prop :=
  ∀ (i : Place) (lanes : Lanes) (data : Word) (s : State),
    (s.open_ → s.part.topo.mode = .unconfigured → ¬(i = 2047 ∧ lanes = fullLanes ∧ data.extractLsb' 0 16 = 1#16) →
      Shadow.wf s.part.topo.shadow →
      ∃ m : List (Nat × Word),
        exec (.topologyWrite i lanes data) s = .next
          ((s.withPart { s.part with topo := { s.part.topo with shadow := m } }).pass
            (writeSome (apertureWord s.path.aps (topologyOffset i)) lanes data)) ∧
        Shadow.word m i.val = mergeLanes (Shadow.word s.part.topo.shadow i.val) data lanes ∧
        (∀ j : Nat, j ≠ i.val → Shadow.word m j = Shadow.word s.part.topo.shadow j)) ∧
    (s.open_ → s.counting →
      exec (.topologyWrite i lanes data) s = .next
        ((s.withPart
          { s.part with
            jrnl := s.part.journalAfter s.part.tbase.ms
              (.violation (BitVec.ofNat 24 (apertureBase s.path.aps + topologyOffset i)) .topologyWrite) }).complete
          { addr := apertureWord s.path.aps (topologyOffset i), write := true, bytes := [] })) ∧
    (s.open_ → s.part.topo.mode = .halted →
      exec (.topologyWrite i lanes data) s = .next
        (s.complete { addr := apertureWord s.path.aps (topologyOffset i), write := true, bytes := [] })) ∧
    (s.up → s.part.topo.mode = .running → Shadow.wf s.part.topo.shadow →
      ∃ m : List (Nat × Word),
        exec (.shadowCorruption i data) s = .next
          (s.withPart { s.part with topo := { s.part.topo with shadow := m } }) ∧
        Shadow.word m i.val = Shadow.word s.part.topo.shadow i.val ^^^ data ∧
        (∀ j : Nat, j ≠ i.val → Shadow.word m j = Shadow.word s.part.topo.shadow j)) ∧
    (s.up → s.part.topo.mode ≠ .running → exec (.shadowCorruption i data) s = .next s)

/-- O39. COMMIT: an accepted commit starts the part in one update. -/
def Obligations.CommitAccepted : Prop :=
  ∀ (check : BitVec 16) (s : State) (m : List (Nat × Word)) (c : Params), s.open_ →
    s.part.topo.mode = .unconfigured →
    m = Shadow.merge s.part.topo.shadow 2047 fullLanes (commitWord check) → c = Params.ofShadow m →
    judgeCommit m s.path.aps check = (.accepted, 0) →
    ∃ t : State, exec (.commit check) s = .next t ∧
      t.part.topo =
        { shadow := m, mode := .running, check := check, result := .accepted, entry := 0, params := c,
          ring := some { base := c.ringBase.toNat, size := 16 * 2 ^ c.ringCode } } ∧
      (∀ h : HeadId, c.heads[h].used = true →
        t.part.hdec[h].phase = (if s.part.hdec[h].free = true then .idle else .unsettled) ∧
        t.part.hdec[h].dwellStart = (if s.part.hdec[h].free = true then none else some s.part.tbase.ms) ∧
        t.part.supv[h] = { HeadHealth.powerOn with health := .healthy }) ∧
      (∀ h : HeadId, c.heads[h].used = false →
        t.part.hdec[h].phase = .off ∧ t.part.hdec[h].dwellStart = none ∧ t.part.supv[h] = HeadHealth.powerOn) ∧
      (∀ h : HeadId, t.part.hdec[h].sensorA = s.part.hdec[h].sensorA ∧
        t.part.hdec[h].sensorB = s.part.hdec[h].sensorB ∧ t.part.hdec[h].suspect = false ∧
        t.part.hdec[h].standing = false) ∧
      (∀ i : SectionId, c.sections[i].inUse = true →
        t.part.scnt[i] =
          { state := .disturbed, count := 0, cause := some .powerUp, moved := false, slot := none, remaining := 0,
            changes := 0#8, bounding := c.bounding i }) ∧
      (∀ i : SectionId, c.sections[i].inUse = false → t.part.scnt[i] = SectionRec.powerOn) ∧
      t.part.jrnl =
        { active := true, queue := [{ detail := .start check c.ringCode, seq := 0#16, time := s.part.tbase.ms }],
          dropped := 0, nextSeq := 1#16, producer := 0, consumer := 0, lastSeq := 0#16,
          writing := some .w1, halt := .none } ∧
      t.part.gen = s.part.gen ∧ t.part.slots = s.part.slots ∧ t.part.tbase = s.part.tbase ∧
      t.part.ticks = s.part.ticks ∧ t.part.sent = s.part.sent ∧ t.mem = s.mem ∧
      t.path =
        { s.path with
          flight := some
            { access := writeFull (apertureWord s.path.aps 0x3FFC) (commitWord check), holds := false,
              dropped := false } }

/-- O40. COMMIT: the nine checks in order, a refused commit, and a commit word write after the commit. -/
def Obligations.CommitRefused : Prop :=
  ∀ (check : BitVec 16) (s : State) (m : List (Nat × Word)) (c : Params), s.open_ →
    m = Shadow.merge s.part.topo.shadow 2047 fullLanes (commitWord check) → c = Params.ofShadow m →
    (∀ r : CommitCode × Nat, s.part.topo.mode = .unconfigured → r = judgeCommit m s.path.aps check →
      r.1 ≠ .accepted →
      exec (.commit check) s = .next
        ((s.withPart
          { s.part with topo := { s.part.topo with shadow := m, result := r.1, entry := r.2 } }).pass
          (writeFull (apertureWord s.path.aps 0x3FFC) (commitWord check)))) ∧
    (Shadow.sum m ≠ check → judgeCommit m s.path.aps check = (.checkMismatch, 0)) ∧
    (∀ j : Nat, Shadow.sum m = check → c.badWord = some j →
      judgeCommit m s.path.aps check = (.badParameter, j)) ∧
    (Shadow.sum m = check → c.badWord = none →
      (c.ringCode < 4 ∨ 10 < c.ringCode ∨ c.ringBase.toNat % (16 * 2 ^ c.ringCode) ≠ 0 ∨
        c.ringBase.toNat / 0x10000 = 0xF0 + s.path.aps.toNat) →
      judgeCommit m s.path.aps check = (.ringPlacement, 5)) ∧
    (c.passesToRing m s.path.aps check →
      (∀ h : HeadId, sidesBad (headEntryWord m h) → (∀ g : HeadId, g < h → ¬ sidesBad (headEntryWord m g)) →
        judgeCommit m s.path.aps check = (.badHeadEntry, h.val)) ∧
      ((∀ g : HeadId, ¬ sidesBad (headEntryWord m g)) →
        (∀ h : HeadId, (∃ i : SectionId, c.names h i ∧ c.sections[i].inUse = false) →
          (∀ g : HeadId, g < h → ∀ i : SectionId, c.names g i → c.sections[i].inUse = true) →
          judgeCommit m s.path.aps check = (.badHeadEntry, h.val)) ∧
        ((∀ (g : HeadId) (i : SectionId), c.names g i → c.sections[i].inUse = true) →
          (∀ i : SectionId, c.sections[i].inUse = true → c.namingHeads i = 0 →
            (∀ j : SectionId, j < i → c.sections[j].inUse = true → c.namingHeads j ≠ 0) →
            judgeCommit m s.path.aps check = (.sectionWithoutHead, i.val)) ∧
          ((∀ j : SectionId, c.sections[j].inUse = true → c.namingHeads j ≠ 0) →
            (∀ i : SectionId, 8 < c.namingHeads i → (∀ j : SectionId, j < i → c.namingHeads j ≤ 8) →
              judgeCommit m s.path.aps check = (.tooManyHeads, i.val)) ∧
            ((∀ j : SectionId, c.namingHeads j ≤ 8) →
              (∀ i : SectionId,
                (15 < c.sections[i].settle ∨ (c.sections[i].prepared = true ∧ c.sections[i].inUse = false)) →
                (∀ j : SectionId, j < i → c.sections[j].settle ≤ 15 ∧
                  (c.sections[j].prepared = true → c.sections[j].inUse = true)) →
                judgeCommit m s.path.aps check = (.badSectionEntry, i.val)) ∧
              ((∀ j : SectionId, c.sections[j].settle ≤ 15 ∧
                  (c.sections[j].prepared = true → c.sections[j].inUse = true)) →
                ((∀ (h : HeadId) (i : SectionId), ¬ c.names h i) →
                  judgeCommit m s.path.aps check = (.noHeads, 0)) ∧
                ((∃ (h : HeadId) (i : SectionId), c.names h i) →
                  judgeCommit m s.path.aps check = (.accepted, 0)))))))) ∧
    (s.counting →
      exec (.commit check) s = .next
        ((s.withPart
          { s.part with
            jrnl := s.part.journalAfter s.part.tbase.ms
              (.violation (BitVec.ofNat 24 (apertureBase s.path.aps + 0x3FFC)) .topologyWrite) }).complete
          { addr := apertureWord s.path.aps 0x3FFC, write := true, bytes := [] })) ∧
    (s.part.topo.mode = .halted →
      exec (.commit check) s = .next
        (s.complete { addr := apertureWord s.path.aps 0x3FFC, write := true, bytes := [] }))

/-- O41. The words of the topology window: the fields of the parameters, head entries and section entries, and the tests of check 2. -/
def Obligations.TopologyWordsGiveParameters : Prop :=
  (∀ (m : List (Nat × Word)) (c : Params) (g : Nat → Nat), c = Params.ofShadow m →
      g = (fun j => (Shadow.word m j).toNat) →
      c.minSep = g 0 % 256 ∧ c.minPulse = g 0 / 65536 % 1024 ∧ c.dwellLimit = g 1 % 256 ∧
      c.restartLimit = g 1 / 256 % 256 ∧ c.stepTime = g 1 / 65536 % 256 ∧ c.openMax = g 2 % 1024 ∧
      c.dampedLow = g 2 / 65536 % 1024 ∧ c.dampedHigh = g 3 % 1024 ∧ c.normalLow = g 3 / 65536 % 1024 ∧
      c.normalHigh = g 4 % 1024 ∧ c.shortMin = g 4 / 65536 % 1024 ∧ c.ringBase.toNat = g 5 % 2 ^ 24 ∧
      c.ringCode = g 5 / 2 ^ 24 % 16 ∧ (c.passageRecords = true ↔ g 6 % 2 = 1) ∧
      (∀ (h : HeadId) (i : SectionId),
        (c.heads[h].sideA = some i ↔ g (64 + h.val) % 256 = i.val) ∧
        (c.heads[h].sideB = some i ↔ g (64 + h.val) / 256 % 256 = i.val) ∧
        headEntryWord m h = Shadow.word m (64 + h.val)) ∧
      (∀ i : SectionId,
        (c.sections[i].inUse = true ↔ g (128 + i.val) % 2 = 1) ∧
        (c.sections[i].prepared = true ↔ g (128 + i.val) / 2 % 2 = 1) ∧
        c.sections[i].settle = g (128 + i.val) / 256 % 256)) ∧
    (∀ (c : Params) (t0 t1 t2 t3 t4 : Prop),
      (t0 ↔ 10 ≤ c.minSep ∧ c.minSep ≤ 255 ∧ 20 ≤ c.minPulse ∧ c.minPulse ≤ 1000) →
      (t1 ↔ 1 ≤ c.dwellLimit ∧ c.dwellLimit ≤ 255 ∧ 1 ≤ c.restartLimit ∧ c.restartLimit ≤ 255 ∧
        2 ≤ c.stepTime ∧ c.stepTime ≤ 30) →
      (t2 ↔ c.openMax < c.dampedLow) → (t3 ↔ c.dampedLow ≤ c.dampedHigh ∧ c.dampedHigh < c.normalLow) →
      (t4 ↔ c.normalLow ≤ c.normalHigh ∧ c.normalHigh < c.shortMin) →
      (¬t0 → c.badWord = some 0) ∧ (t0 → ¬t1 → c.badWord = some 1) ∧ (t0 → t1 → ¬t2 → c.badWord = some 2) ∧
      (t0 → t1 → t2 → ¬t3 → c.badWord = some 3) ∧ (t0 → t1 → t2 → t3 → ¬t4 → c.badWord = some 4) ∧
      (t0 → t1 → t2 → t3 → t4 → c.badWord = none))

/-- O42. SLOW_TICK at TOPO: the re-check and the change to HALTED. -/
def Obligations.RecheckHalts : Prop :=
  ∀ (s : State) (v : Word) (rest : List Word), s.up → s.part.ticks.slowTopo = v :: rest →
    (s.part.topo.mode ≠ .running ∨ Shadow.sum s.part.topo.shadow = s.part.topo.check →
      exec (.slowTick .topo) s = .next (s.withPart { s.part with ticks := { s.part.ticks with slowTopo := rest } })) ∧
    (s.part.topo.mode = .running → Shadow.sum s.part.topo.shadow ≠ s.part.topo.check →
      ∃ t : State, exec (.slowTick .topo) s = .next t ∧
        t.part.topo = { s.part.topo with mode := .halted } ∧
        (∀ h : HeadId, t.part.hdec[h] =
          { s.part.hdec[h] with
            phase := .off
            suspect := false
            dwellStart := none
            standing := false
            shadowPhase := none
            shadowSuspect := false }) ∧
        (∀ i : SectionId, s.part.scnt[i].state ≠ .unused →
          t.part.scnt[i] =
            { s.part.scnt[i] with
              state := .disturbed
              count := 0
              cause := some .internal
              moved := false
              slot := none
              changes := s.part.scnt[i].changes + 1#8 }) ∧
        (∀ i : SectionId, s.part.scnt[i].state = .unused → t.part.scnt[i] = s.part.scnt[i]) ∧
        (∀ n : SlotId, s.part.slots[n].busy = true →
          t.part.slots[n] = { s.part.slots[n] with state := .failed, result := some .halted }) ∧
        (∀ n : SlotId, s.part.slots[n].busy = false → t.part.slots[n] = s.part.slots[n]) ∧
        t.part.supv = s.part.supv ∧ t.part.gen = Generator.powerOn s.part.gen.serial ∧
        (∀ q : Journal,
          q = allSlots.foldl
            (fun j n =>
              if s.part.slots[n].busy = true then
                j.take s.part.topo.params.ringCode v
                  (.request n s.part.slots[n].kind s.part.slots[n].target s.part.slots[n].token .halted)
              else j) s.part.jrnl →
          (q.queue.length < 16 →
            t.part.jrnl = Journal.startWrite
              { q with
                queue := q.queue ++
                  [{ detail := .halt (Shadow.sum s.part.topo.shadow) q.dropped
                     seq := q.nextSeq
                     time := v }]
                nextSeq := q.nextSeq + 1#16
                dropped := 0 } s.part.topo.params.ringCode) ∧
          (16 ≤ q.queue.length →
            t.part.jrnl =
              { q with
                dropped := 0
                halt := .pending (Shadow.sum s.part.topo.shadow) q.dropped })) ∧
        t.attn = true ∧ t.part.sent = s.part.sent ∧ t.part.tbase = s.part.tbase ∧ t.path = s.path ∧
        t.mem = s.mem)

/-- O43. KEPT_WRITE: a status or ring write is kept with one VIOLATION record in RUNNING. -/
def Obligations.KeptWriteNeverReachesMemory : Prop :=
  ∀ (a : WordAddr) (lanes : Lanes) (data : Word) (s : State) (k : ViolationKind), s.open_ →
    ((k = .statusWrite ∧ apertureBase s.path.aps ≤ 4 * a.toNat ∧ 4 * a.toNat < apertureBase s.path.aps + 0x1000) ∨
      (k = .ringWrite ∧ (4 * a.toNat < apertureBase s.path.aps ∨ apertureBase s.path.aps + 0x10000 ≤ 4 * a.toNat) ∧
        ∃ r : RingRegion, s.part.topo.ring = some r ∧ r.base ≤ 4 * a.toNat ∧ 4 * a.toNat < r.base + r.size)) →
    (s.counting →
      exec (.keptWrite a lanes data) s = .next
        ((s.withPart
          { s.part with
            jrnl := s.part.journalAfter s.part.tbase.ms (.violation (BitVec.ofNat 24 (4 * a.toNat)) k) }).complete
          { addr := a, write := true, bytes := [] })) ∧
    (s.part.topo.mode ≠ .running →
      exec (.keptWrite a lanes data) s = .next (s.complete { addr := a, write := true, bytes := [] }))

/-- O44. A read of the status window, arriving with PORT_GRANT, is answered from the live state. -/
def Obligations.StatusReadIsAnsweredLive : Prop :=
  ∀ (off : Nat) (lanes : Lanes) (first : Claimant) (s : State), s.open_ → off < 0x1000 → off % 4 = 0 →
    (∃ t : State,
      exec (.portGrant
          ⟨some { addr := apertureWord s.path.aps off, write := false, lanes := lanes, data := 0#32 }, first⟩) s =
        .next t ∧
      t.path.completed = some
        { addr := apertureWord s.path.aps off, write := false,
          bytes := [0, 1, 2, 3].map fun i => (i, laneByte (statusWord s.part off) i) } ∧
      t.path.flight = none ∧ t.part = s.part ∧ t.mem = s.mem) ∧
    statusWord s.part 0x000 = BitVec.ofNat 32 s.part.topo.mode.code ∧
    statusWord s.part 0x004 =
      BitVec.ofNat 32 (s.part.topo.result.code % 256 + 256 * (s.part.topo.entry % 256)) ∧
    statusWord s.part 0x008 = s.part.tbase.ms ∧
    statusWord s.part 0x00C =
      BitVec.ofNat 32 (s.part.jrnl.producer % 1024 + 65536 * (s.part.jrnl.consumer % 1024)) ∧
    statusWord s.part 0x010 = s.part.jrnl.lastSeq.setWidth 32 ∧
    statusWord s.part 0x014 = s.part.topo.check.setWidth 32 ∧
    (∀ i : SectionId, s.part.scnt[i].count ≤ 1023 →
      (statusWord s.part (0x100 + 4 * i.val)).toNat =
        s.part.scnt[i].state.code + 8 * causeCode s.part.scnt[i].cause + 128 * s.part.scnt[i].moved.toNat +
          256 * ((s.part.scnt[i].slot.map Fin.val).getD 0) + 2048 * s.part.scnt[i].slot.isSome.toNat +
          4096 * s.part.scnt[i].count + 2 ^ 24 * s.part.scnt[i].changes.toNat) ∧
    (∀ h : HeadId, s.part.supv[h].score ≤ 255 →
      (statusWord s.part (0x200 + 4 * h.val)).toNat =
        s.part.hdec[h].phase.code + 16 * s.part.hdec[h].sensorA.damped.toNat +
          32 * s.part.hdec[h].sensorB.damped.toNat + 64 * s.part.hdec[h].suspect.toNat +
          128 * s.part.hdec[h].standing.toNat + 256 * s.part.supv[h].health.code +
          65536 * s.part.supv[h].score) ∧
    (∀ n : SlotId,
      (statusWord s.part (0x300 + 4 * n.val)).toNat =
        s.part.slots[n].state.code + 8 * resultCode s.part.slots[n].result +
          256 * s.part.slots[n].kind.toNat + 65536 * s.part.slots[n].target.toNat +
          2 ^ 24 * s.part.slots[n].token.toNat) ∧
    (((0x018 ≤ off ∧ off ≤ 0x0FC) ∨ (0x160 ≤ off ∧ off ≤ 0x1FC) ∨ (0x280 ≤ off ∧ off ≤ 0x2FC) ∨
        (0x320 ≤ off ∧ off ≤ 0xFFC)) →
      statusWord s.part off = 0#32)

/-- O45. PORT_GRANT: the arbiter at a free port, two claimants that meet there, and the access that arrives. -/
def Obligations.PortGrantFollowsWaitCount : Prop :=
  ∀ (s : State) (w : Option JournalWord) (first : Claimant), s.up → w = s.part.jrnl.offered s.part.topo.params.ringBase →
    (∀ (r : JRecord) (rest : List JRecord), s.part.jrnl.queue = r :: rest →
      (s.part.jrnl.writing = some .w1 →
        w = some
          { addr := s.part.topo.params.ringBase + BitVec.ofNat 24 (16 * s.part.jrnl.producer + 4), data := r.time }) ∧
      (s.part.jrnl.writing = some .w0 → ∃ x : JournalWord, w = some x ∧
        x.addr = s.part.topo.params.ringBase + BitVec.ofNat 24 (16 * s.part.jrnl.producer) ∧
        x.data.toNat = r.seq.toNat + 65536 * r.detail.kindCode) ∧
      (s.part.jrnl.writing = some .w2 →
        w = some
          { addr := s.part.topo.params.ringBase + BitVec.ofNat 24 (16 * s.part.jrnl.producer + 8)
            data := r.detail.word2 }) ∧
      (s.part.jrnl.writing = some .w3 →
        w = some
          { addr := s.part.topo.params.ringBase + BitVec.ofNat 24 (16 * s.part.jrnl.producer + 12)
            data := r.detail.word3 }) ∧
      (s.part.jrnl.writing = none → w = none)) ∧
    (s.path.jword.isSome = true ∨ s.path.flight.any Flight.holds = true →
      exec (.portGrant ⟨none, first⟩) s = .next s) ∧
    (s.path.jword = none → s.path.flight = none → w = none → exec (.portGrant ⟨none, first⟩) s = .next s) ∧
    (∀ f : Flight, s.path.jword = none → s.path.flight = some f → f.holds = false → w = none →
      exec (.portGrant ⟨none, first⟩) s = .next
        { s with
          path :=
            { s.path with
              flight := some { f with holds := true }, accessWaited := false, wordWaited := false } }) ∧
    (∀ x : JournalWord, s.path.jword = none → s.path.flight = none → w = some x →
      exec (.portGrant ⟨none, first⟩) s = .next
        { s with
          path :=
            { s.path with jword := some x, waitCount := 0, accessWaited := false, wordWaited := false } }) ∧
    (∀ (f : Flight) (x : JournalWord) (a b : State), s.path.jword = none → s.path.flight = some f →
      f.holds = false → w = some x →
      a =
        { s with
          path :=
            { s.path with
              flight := some { f with holds := true }, accessWaited := false, wordWaited := false } } →
      b =
        { s with
          path :=
            { s.path with jword := some x, waitCount := 0, accessWaited := false, wordWaited := false } } →
      (s.path.wordWaited = true → s.path.accessWaited = true ∨ first = .access →
        (s.path.waitCount < 16 →
          exec (.portGrant ⟨none, first⟩) s = .next
            { a with path := { a.path with waitCount := s.path.waitCount + 1 } }) ∧
        (16 ≤ s.path.waitCount → exec (.portGrant ⟨none, first⟩) s = .next b)) ∧
      (s.path.wordWaited = true → s.path.accessWaited = false → first = .word →
        exec (.portGrant ⟨none, first⟩) s = .next b) ∧
      (s.path.wordWaited = false → s.path.accessWaited = true → exec (.portGrant ⟨none, first⟩) s = .next a) ∧
      (s.path.wordWaited = false → s.path.accessWaited = false →
        (first = .access → exec (.portGrant ⟨none, first⟩) s = .next a) ∧
        (first = .word → exec (.portGrant ⟨none, first⟩) s = .next b))) ∧
    (∀ a : Access, s.path.cpurst = false → s.path.flight = none →
      ((a.write = false ∧
          (4 * a.addr.toNat < apertureBase s.path.aps ∨ apertureBase s.path.aps + 0x1000 ≤ 4 * a.addr.toNat)) ∨
        (a.write = true ∧
          ((apertureBase s.path.aps + 0x4000 ≤ 4 * a.addr.toNat ∧
              4 * a.addr.toNat < apertureBase s.path.aps + 0x10000) ∨
            ((4 * a.addr.toNat < apertureBase s.path.aps ∨
                apertureBase s.path.aps + 0x10000 ≤ 4 * a.addr.toNat) ∧
              ∀ r : RingRegion, s.part.topo.ring = some r →
                4 * a.addr.toNat < r.base ∨ r.base + r.size ≤ 4 * a.addr.toNat)))) →
      exec (.portGrant ⟨some a, first⟩) s =
        exec (.portGrant ⟨none, first⟩)
          { s with path := { s.path with flight := some { access := a, holds := false, dropped := false } } }) ∧
    (∀ a : Access, s.path.cpurst = false → s.path.flight.isSome = true →
      (s.path.waiting = none →
        exec (.portGrant ⟨some a, first⟩) s =
          exec (.portGrant ⟨none, first⟩) { s with path := { s.path with waiting := some a } } ∧
        (a.write = true →
          exec (.keptWrite a.addr a.lanes a.data) s =
            .next { s with path := { s.path with waiting := some a } })) ∧
      (s.path.waiting.isSome = true →
        exec (.portGrant ⟨some a, first⟩) s = exec (.portGrant ⟨none, first⟩) s ∧
        exec (.keptWrite a.addr a.lanes a.data) s = .next s)) ∧
    (∀ a : Access, s.path.cpurst = true →
      exec (.portGrant ⟨some a, first⟩) s = exec (.portGrant ⟨none, first⟩) s)

/-- O46. The words w2 and w3 of each kind of journal record, and the numeric codes of 11.3. -/
def Obligations.RecordWordLayouts : Prop :=
  (∀ (check : BitVec 16) (k : Nat), k ≤ 15 →
      (Detail.start check k).word2.toNat = check.toNat ∧ (Detail.start check k).word3.toNat = k) ∧
    (∀ (sum : BitVec 16) (n : Nat), n ≤ 65535 →
      (Detail.halt sum n).word2.toNat = sum.toNat ∧ (Detail.halt sum n).word3.toNat = n ∧
      (Detail.gap n).word2.toNat = n ∧ (Detail.gap n).word3 = 0#32) ∧
    (∀ (i : SectionId) (old new : SectionState) (n : Nat) (c : Option Cause), n ≤ 1023 →
      (Detail.section_ i old new n c).word2.toNat =
        i.val + 256 * old.code + 65536 * new.code + 2 ^ 24 * causeCode c ∧
      (Detail.section_ i old new n c).word3.toNat = n) ∧
    (∀ (h : HeadId) (old new : Health) (n : Nat) (g : Trigger) (y : Option System), n ≤ 255 →
      (Detail.head h old new n g y).word2.toNat =
        h.val + 256 * old.code + 65536 * new.code + 2 ^ 24 * g.code ∧
      (Detail.head h old new n g y).word3.toNat = n + 256 * systemCode y) ∧
    (∀ (h : HeadId) (e : Bool),
      (Detail.standing h e).word2.toNat = h.val ∧ (Detail.standing h e).word3.toNat = e.toNat) ∧
    (∀ (h : HeadId) (d : Direction) (o : PassageOutcome),
      (Detail.passage h d o).word2.toNat = h.val + 256 * (directionBit d).toNat + 65536 * o.code ∧
      (Detail.passage h d o).word3 = 0#32) ∧
    (∀ (n : SlotId) (kind target token : Byte) (r : Result),
      (Detail.request n kind target token r).word2.toNat = n.val + 256 * r.code ∧
      (Detail.request n kind target token r).word3.toNat =
        kind.toNat + 256 * target.toNat + 65536 * token.toNat) ∧
    (∀ (h : HeadId) (d : Direction) (o : TestOutcome) (step : Option Nat) (k : Option TestCheck),
      step.getD 0 ≤ 4 →
      (Detail.test h d o step k).word2.toNat =
        h.val + 256 * (directionBit d).toNat + 65536 * o.code + 2 ^ 24 * step.getD 0 ∧
      (Detail.test h d o step k).word3.toNat = checkCode k) ∧
    (∀ (a : Addr) (k : ViolationKind),
      (Detail.violation a k).word2.toNat = a.toNat ∧ (Detail.violation a k).word3.toNat = k.code) ∧
    [Detail.start 0#16 0, .halt 0#16 0, .section_ 0 .clear .clear 0 none, .head 0 .unused .unused 0 .glitch none,
      .standing 0 false, .passage 0 .aToB .counted, .request 0 0#8 0#8 0#8 .ok, .test 0 .aToB .pass none none,
      .violation 0#24 .statusWrite, .gap 0].map Detail.kindCode = [1, 2, 3, 4, 5, 6, 7, 8, 9, 10] ∧
    [Mode.unconfigured, .running, .halted].map Mode.code = [0, 1, 2] ∧
    [CommitCode.noCommit, .accepted, .checkMismatch, .badParameter, .ringPlacement, .badHeadEntry,
      .sectionWithoutHead, .tooManyHeads, .badSectionEntry, .noHeads].map CommitCode.code =
      [0, 1, 2, 3, 4, 5, 6, 7, 8, 9] ∧
    [Phase.idle, .arrA, .ovrA, .depA, .arrB, .ovrB, .depB, .unsettled, .test, .off].map Phase.code =
      [0, 1, 2, 3, 4, 5, 6, 7, 8, 9] ∧
    [SlotState.idle, .active, .waiting, .done, .failed, .refused, .cancelled].map SlotState.code =
      [0, 1, 2, 3, 4, 5, 6] ∧
    [SectionState.unused, .disturbed, .sweepWait, .sweeping, .occupied, .settling, .clear].map SectionState.code =
      [0, 1, 2, 3, 4, 5, 6] ∧
    [none, some Cause.powerUp, some .underflow, some .overflow, some .headFailed, some .countSuspect,
      some .testAbort, some .resetCancelled, some .internal].map causeCode = [0, 1, 2, 3, 4, 5, 6, 7, 8] ∧
    [Health.unused, .healthy, .marginal, .degraded, .failed, .recovering].map Health.code = [0, 1, 2, 3, 4, 5] ∧
    [Trigger.separation, .glitch, .cleanPassage, .scanOpen, .scanShort, .scanIndeterminate, .scanDisagree,
      .testFail, .testPass, .recovered, .restartTimeout, .restartCancelled].map Trigger.code =
      [1, 2, 3, 4, 5, 6, 7, 8, 9, 10, 11, 12] ∧
    [none, some System.sysA, some .sysB].map systemCode = [0, 1, 2] ∧
    [Direction.aToB, .bToA].map directionBit = [0#1, 1#1] ∧
    [PassageOutcome.counted, .retreat, .glitch, .suspect].map PassageOutcome.code = [0, 1, 2, 3] ∧
    [Result.ok, .slotBusy, .notRunning, .badCheck, .badKind, .badTarget, .targetBusy, .state, .headNotReady,
      .cause, .moved, .testBusy, .sweepBroken, .timeout, .testFail, .testAbort, .nothingToCancel, .cancelled,
      .halted].map Result.code = [1, 2, 3, 4, 5, 6, 7, 8, 9, 10, 11, 12, 13, 14, 15, 16, 17, 18, 19] ∧
    [TestOutcome.pass, .fail, .abort, .cancel, .releaseAbort].map TestOutcome.code = [0, 1, 2, 3, 4] ∧
    [none, some TestCheck.missingResponse, some .midSample, some .noPassage, some .unexpectedEdge,
      some .notIdle].map checkCode = [0, 1, 2, 3, 4, 5] ∧
    [ViolationKind.statusWrite, .topologyWrite, .ringWrite, .partialCommand, .consumerRange].map
      ViolationKind.code = [1, 2, 3, 4, 5]

/-- O47. MEMORY_ACCESS_COMPLETE: what memory holds and what the processor receives. -/
def Obligations.MemoryAccessCompletes : Prop :=
  ∀ (s : State), s.up →
    (s.path.flight.any Flight.holds = false → exec .memoryAccessComplete s = .next s) ∧
    (∀ f : Flight, s.path.flight = some f → f.holds = true → s.path.waiting = none →
      ∃ t : State, exec .memoryAccessComplete s = .next t ∧ t.part = s.part ∧
        (∀ a : Nat, (∀ i ∈ lanesOf f.access.lanes, (4 * f.access.addr.toNat + i) % 2 ^ 24 ≠ a) →
          Memory.byte? t.mem a = Memory.byte? s.mem a) ∧
        (f.access.write = true → ∀ i ∈ lanesOf f.access.lanes,
          Memory.byte? t.mem ((4 * f.access.addr.toNat + i) % 2 ^ 24) = some (laneByte f.access.data i)) ∧
        (f.access.write = false → t.mem = s.mem) ∧
        t.path =
          { s.path with
            flight := none
            accessWaited := false
            wordWaited := (s.part.jrnl.offered s.part.topo.params.ringBase).isSome
            completed := if f.dropped = true then s.path.completed else some
              { addr := f.access.addr, write := f.access.write
                bytes := if f.access.write = true then [] else
                  (lanesOf f.access.lanes).map fun i => (i, Memory.byte s.mem (4 * f.access.addr.toNat + i)) } }) ∧
    (∀ (f : Flight) (a : Access) (u : State), s.path.flight = some f → f.holds = true → s.path.waiting = some a →
      s.path.cpurst = false →
      exec .memoryAccessComplete { s with path := { s.path with waiting := none } } = .next u →
      exec .memoryAccessComplete s = .next (u.accept a))

/-- O48. RECORD_WRITE_START, JOURNAL_WORD_COMPLETE and HALT_PENDING_ENTRY: a record on its way to the ring. -/
def Obligations.RecordReachesRing : Prop :=
  ∀ (s : State) (k : Nat), s.up → k = s.part.topo.params.ringCode →
    (∀ (w : JournalWord) (a : Nat), (∀ i : Nat, i < 4 → (w.addr.toNat + i) % 2 ^ 24 ≠ a) →
      Memory.byte? (Memory.writeJournal s.mem w) a = Memory.byte? s.mem a) ∧
    (∀ (w : JournalWord) (i : Nat), i < 4 →
      Memory.byte? (Memory.writeJournal s.mem w) ((w.addr.toNat + i) % 2 ^ 24) = some (laneByte w.data i)) ∧
    (s.part.jrnl.active = true → s.part.jrnl.writing = none → s.part.jrnl.queue ≠ [] →
      0 < s.part.jrnl.space k →
      exec .recordWriteStart s = .next
        (s.withPart { s.part with jrnl := { s.part.jrnl with writing := some .w1 } })) ∧
    (∀ (w : JournalWord) (ix nx : RecordWordIx), s.path.jword = some w → s.part.jrnl.writing = some ix →
      (ix, nx) ∈ [(.w1, .w2), (.w2, .w3), (.w3, .w0)] →
      exec .journalWordComplete s = .next
        { s with
          part := { s.part with jrnl := { s.part.jrnl with writing := some nx } }
          path :=
            { s.path with
              jword := none
              accessWaited := s.path.flight.isSome
              wordWaited := decide (s.part.jrnl.queue ≠ []) }
          mem := Memory.writeJournal s.mem w }) ∧
    (∀ (w : JournalWord) (r : JRecord) (rest : List JRecord), s.path.jword = some w →
      s.part.jrnl.writing = some .w0 → s.part.jrnl.queue = r :: rest →
      ∃ t : State, exec .journalWordComplete s = .next t ∧
        t.part.jrnl.producer = (s.part.jrnl.producer + 1) % 2 ^ k ∧ t.part.jrnl.lastSeq = r.seq ∧
        t.part.jrnl.consumer = s.part.jrnl.consumer ∧
        t.path =
          { s.path with
            jword := none
            accessWaited := s.path.flight.isSome
            wordWaited := (t.part.jrnl.offered s.part.topo.params.ringBase).isSome } ∧
        t.mem = Memory.writeJournal s.mem w ∧
        t.part.hdec = s.part.hdec ∧ t.part.scnt = s.part.scnt ∧ t.part.supv = s.part.supv ∧
        t.part.slots = s.part.slots ∧ t.part.topo = s.part.topo ∧
        (∀ sum dropped, r.detail = .halt sum dropped →
          t.part.jrnl.active = false ∧ t.part.jrnl.halt = .stopped ∧ t.part.jrnl.queue = rest ∧
          t.part.jrnl.writing = none) ∧
        ((∀ sum dropped, r.detail ≠ .halt sum dropped) →
          t.part.jrnl.active = s.part.jrnl.active ∧
          t.part.jrnl.writing =
            if s.part.jrnl.active = true ∧ t.part.jrnl.queue ≠ [] ∧ 0 < t.part.jrnl.space k then some .w1
            else none) ∧
        ((∀ sum dropped, r.detail ≠ .halt sum dropped) → s.part.jrnl.halt = .none →
          t.part.jrnl.queue = rest ∧ t.part.jrnl.nextSeq = s.part.jrnl.nextSeq) ∧
        (∀ sum dropped, (∀ x y, r.detail ≠ .halt x y) → s.part.jrnl.halt = .pending sum dropped →
          rest.length < 16 →
          t.part.jrnl.queue =
            rest ++ [{ detail := .halt sum dropped, seq := s.part.jrnl.nextSeq, time := s.part.tbase.ms }] ∧
          t.part.jrnl.nextSeq = s.part.jrnl.nextSeq + 1#16 ∧ t.part.jrnl.halt = .none ∧
          exec .haltPendingEntry s = .next t))

/-- O49. JRNL takes a record: the four rows of places free and dropped count. -/
def Obligations.JournalTakesRecords : Prop :=
  ∀ (j : Journal) (now : Word) (d : Detail),
    (16 ≤ j.queue.length → j.queueRecord now d = { j with dropped := min 65535 (j.dropped + 1) }) ∧
    (j.queue.length < 16 → j.dropped = 0 →
      j.queueRecord now d =
        { j with
          queue := j.queue ++ [{ detail := d, seq := j.nextSeq, time := now }]
          nextSeq := j.nextSeq + 1#16 }) ∧
    (j.queue.length < 15 → j.dropped ≠ 0 →
      j.queueRecord now d =
        { j with
          queue := j.queue ++ [{ detail := .gap j.dropped, seq := j.nextSeq, time := now }] ++
            [{ detail := d, seq := j.nextSeq + 1#16, time := now }]
          nextSeq := j.nextSeq + 1#16 + 1#16
          dropped := 0 }) ∧
    (j.queue.length = 15 → j.dropped ≠ 0 →
      j.queueRecord now d =
        { j with
          queue := j.queue ++ [{ detail := .gap j.dropped, seq := j.nextSeq, time := now }]
          nextSeq := j.nextSeq + 1#16
          dropped := 1 })

/-- O50. PORST_ASSERT and PORST_RELEASE. -/
def Obligations.PowerOnReset : Prop :=
  ∀ (s : State),
    (s.up →
      ∃ t : State, exec .porstAssert s = .next t ∧ t.path.porst = true ∧ t.path.flight = none ∧
        t.path.waiting = none ∧ t.path.jword = none ∧ t.attn = false ∧
        (∀ (h : HeadId) (y : System), t.part.gen.drive h y = false) ∧
        t.part.tbase = { us := 0#32, ms := 0#32, period := 0 } ∧ t.part.jrnl.writing = none ∧
        t.part.sent = InFlight.none ∧ t.part.ticks = Ticks.none ∧
        ((s.path.jword = none ∧ (∀ f : Flight, s.path.flight = some f → f.holds = false ∨ f.access.write = false)) →
          t.mem = s.mem) ∧
        (∀ w : JournalWord, s.path.jword = some w → ∀ a : Nat,
          (∀ i : Nat, i < 4 → (w.addr.toNat + i) % 2 ^ 24 ≠ a) → Memory.byte? t.mem a = Memory.byte? s.mem a) ∧
        (∀ f : Flight, s.path.jword = none → s.path.flight = some f → ∀ a : Nat,
          (∀ i ∈ lanesOf f.access.lanes, (4 * f.access.addr.toNat + i) % 2 ^ 24 ≠ a) →
          Memory.byte? t.mem a = Memory.byte? s.mem a)) ∧
    (s.path.porst = true →
      (∀ c : Instr, c ∉ [.porstAssert, .cpurstAssert, .cpurstRelease] →
        (∀ aps la lb, c ≠ .porstRelease aps la lb) → exec c s = .next s) ∧
      (∀ (aps : BitVec 4) (la lb : BitVec 32),
        ∃ t : State, exec (.porstRelease aps la lb) s = .next t ∧ t.mem = s.mem ∧
          t.path =
            { aps := aps, waiting := none, flight := none, waitCount := 0, accessWaited := false,
              wordWaited := false, jword := none, completed := none, porst := false, cpurst := s.path.cpurst } ∧
          t.part.topo.ring = none ∧ t.part.topo.mode = .unconfigured ∧ t.part.topo.shadow = [] ∧
          t.part.topo.check = 0#16 ∧ t.part.topo.result = .noCommit ∧ t.part.topo.entry = 0 ∧
          (∀ h : HeadId, t.part.hdec[h] =
            { phase := .off, sensorA := { damped := la.getLsbD h.val, edgeTime := 0#32, edgeAge := 15 },
              sensorB := { damped := lb.getLsbD h.val, edgeTime := 0#32, edgeAge := 15 }, suspect := false,
              dwellStart := none, standing := false, shadowPhase := none, shadowSuspect := false }) ∧
          (∀ i : SectionId, t.part.scnt[i] =
            { state := .unused, count := 0, cause := none, moved := false, slot := none, remaining := 0,
              changes := 0#8, bounding := [] }) ∧
          (∀ h : HeadId, t.part.supv[h] =
            { health := .unused, score := 0, classA := none, classB := none, quiet := 0, restartCount := 0,
              refTimes := none, restartSlot := none }) ∧
          t.part.gen =
            { state := .idle, target := none, slot := none, direction := none, step := 0, stepStart := none,
              stepDeadline := none, expectA := false, expectB := false, response := false, followOpen := false,
              outcomes := [], shadowSeparation := false, releaseLeft := none, releaseA := false,
              releaseB := false, reportPending := false, tickDue := false, serial := s.part.gen.serial } ∧
          t.part.sent = InFlight.none ∧ t.part.ticks = Ticks.none ∧ t.attn = false ∧
          (∀ n : SlotId, t.part.slots[n] =
            { state := .idle, kind := 0#8, target := 0#8, token := 0#8, result := none, param := 0#32 }) ∧
          t.part.jrnl =
            { active := false, queue := [], dropped := 0, nextSeq := 0#16, producer := 0, consumer := 0,
              lastSeq := 0#16, writing := none, halt := .none } ∧
          t.part.tbase = { us := 0#32, ms := 0#32, period := 0 }))

/-- O51. CPURST_ASSERT and CPURST_RELEASE act on PATH alone. -/
def Obligations.ProcessorReset : Prop :=
  ∀ (s : State), s.up →
    (s.path.cpurst = false →
      exec .cpurstAssert s = .next
        { s with
          path :=
            { s.path with
              cpurst := true
              waiting := none
              waitCount := 0
              flight := match s.path.flight with
                | none => none
                | some f => some { f with dropped := true } } }) ∧
    (s.path.cpurst = true → ∀ c : Instr,
      ((∃ n t o k, c ∈ [.sweepReset n t o k, .preparedReset n t o k, .headRestart n t o k, .headTest n t o k,
          .cancel n t o k]) ∨
        (∃ n v t o k, c = .commandNotAKind n v t o k) ∨
        (∃ n l w, c ∈ [.partialCommand n l w, .parameterWordWrite n l w]) ∨ (∃ v, c = .consumerWrite v) ∨
        (∃ i l w, c = .topologyWrite i l w) ∨ (∃ v, c = .commit v) ∨ (∃ a l w, c = .keptWrite a l w)) →
      exec c s = .next s) ∧
    exec .cpurstRelease s = .next { s with path := { s.path with cpurst := false } }

/-- O52. Every step keeps the levels of each phase, and where a head may decode. -/
def Obligations.HeadsInvariant : Prop :=
  ∀ s t : State, (s.path.porst = false → HeadsOk s.part) → step s = .next t →
    t.path.porst = false → HeadsOk t.part

/-- O53. Every step keeps the values a section record holds in each state. -/
def Obligations.SectionsInvariant : Prop :=
  ∀ s t : State, SectionsOk s.part → step s = .next t → SectionsOk t.part

/-- O54. Every step keeps: no section is in proof while a bounding head is FAILED or RECOVERING. -/
def Obligations.NoProofBesideFailedHead : Prop :=
  ∀ s t : State, ProofOk s.part → step s = .next t → ProofOk t.part

/-- O55. Every step keeps the agreement of score and health. -/
def Obligations.HealthInvariant : Prop :=
  ∀ s t : State, HealthOk s.part → step s = .next t → HealthOk t.part

/-- O56. Every step keeps the canonical form of RAM and shadow, and what the checks of a commit established. -/
def Obligations.StoresInvariant : Prop :=
  ∀ s t : State, StoresOk s → step s = .next t → StoresOk t

/-- O57. Every step keeps the agreement of slots in progress and the objects they name. -/
def Obligations.SlotsInvariant : Prop :=
  ∀ s t : State, StoresOk s → (s.path.porst = false → SlotsOk s.part) → step s = .next t →
    t.path.porst = false → SlotsOk t.part

/-- O58. Every step keeps the two counters running from the same periods. -/
def Obligations.TimeInvariant : Prop :=
  ∀ s t : State, TimeOk s.part → step s = .next t → TimeOk t.part

/-- O59. Every step keeps the journal's numbers and the port's single access. -/
def Obligations.JournalAndPortInvariant : Prop :=
  ∀ s t : State, JournalOk s.part → PortOk s → step s = .next t → JournalOk t.part ∧ PortOk t

/-- O60. The machine right after reset meets every invariant. -/
def Obligations.ResetMeetsInvariants : Prop :=
  State.reset.part.topo.mode = .unconfigured ∧ State.reset.pending = [] ∧ HeadsOk State.reset.part ∧
    SectionsOk State.reset.part ∧ ProofOk State.reset.part ∧ HealthOk State.reset.part ∧ StoresOk State.reset ∧
    SlotsOk State.reset.part ∧ TimeOk State.reset.part ∧ JournalOk State.reset.part ∧ PortOk State.reset
end

