-- ==== Sys2Proof/Laws/State.lean ====
section
/-! SUPPORT. One lemma for each field and each update of the state: what is written, and what stays. -/

namespace Sys2Proof.Machine

open Sys2Proof

/-! ### Updates of one block -/

@[simp] theorem Part.setHdec_hdec (p : Part) (h : HeadId) (x : HeadDecoder) : (p.setHdec h x).hdec = p.hdec.set h x := rfl
@[simp] theorem Part.setHdec_scnt (p : Part) (h : HeadId) (x : HeadDecoder) : (p.setHdec h x).scnt = p.scnt := rfl
@[simp] theorem Part.setHdec_supv (p : Part) (h : HeadId) (x : HeadDecoder) : (p.setHdec h x).supv = p.supv := rfl
@[simp] theorem Part.setHdec_gen (p : Part) (h : HeadId) (x : HeadDecoder) : (p.setHdec h x).gen = p.gen := rfl
@[simp] theorem Part.setHdec_slots (p : Part) (h : HeadId) (x : HeadDecoder) : (p.setHdec h x).slots = p.slots := rfl
@[simp] theorem Part.setHdec_jrnl (p : Part) (h : HeadId) (x : HeadDecoder) : (p.setHdec h x).jrnl = p.jrnl := rfl
@[simp] theorem Part.setHdec_topo (p : Part) (h : HeadId) (x : HeadDecoder) : (p.setHdec h x).topo = p.topo := rfl
@[simp] theorem Part.setHdec_tbase (p : Part) (h : HeadId) (x : HeadDecoder) : (p.setHdec h x).tbase = p.tbase := rfl
@[simp] theorem Part.setHdec_ticks (p : Part) (h : HeadId) (x : HeadDecoder) : (p.setHdec h x).ticks = p.ticks := rfl
@[simp] theorem Part.setHdec_sent (p : Part) (h : HeadId) (x : HeadDecoder) : (p.setHdec h x).sent = p.sent := rfl

@[simp] theorem Part.setSupv_hdec (p : Part) (h : HeadId) (x : HeadHealth) : (p.setSupv h x).hdec = p.hdec := rfl
@[simp] theorem Part.setSupv_scnt (p : Part) (h : HeadId) (x : HeadHealth) : (p.setSupv h x).scnt = p.scnt := rfl
@[simp] theorem Part.setSupv_supv (p : Part) (h : HeadId) (x : HeadHealth) : (p.setSupv h x).supv = p.supv.set h x := rfl
@[simp] theorem Part.setSupv_gen (p : Part) (h : HeadId) (x : HeadHealth) : (p.setSupv h x).gen = p.gen := rfl
@[simp] theorem Part.setSupv_slots (p : Part) (h : HeadId) (x : HeadHealth) : (p.setSupv h x).slots = p.slots := rfl
@[simp] theorem Part.setSupv_jrnl (p : Part) (h : HeadId) (x : HeadHealth) : (p.setSupv h x).jrnl = p.jrnl := rfl
@[simp] theorem Part.setSupv_topo (p : Part) (h : HeadId) (x : HeadHealth) : (p.setSupv h x).topo = p.topo := rfl
@[simp] theorem Part.setSupv_tbase (p : Part) (h : HeadId) (x : HeadHealth) : (p.setSupv h x).tbase = p.tbase := rfl
@[simp] theorem Part.setSupv_ticks (p : Part) (h : HeadId) (x : HeadHealth) : (p.setSupv h x).ticks = p.ticks := rfl
@[simp] theorem Part.setSupv_sent (p : Part) (h : HeadId) (x : HeadHealth) : (p.setSupv h x).sent = p.sent := rfl

@[simp] theorem Part.setScnt_hdec (p : Part) (i : SectionId) (x : SectionRec) : (p.setScnt i x).hdec = p.hdec := rfl
@[simp] theorem Part.setScnt_scnt (p : Part) (i : SectionId) (x : SectionRec) : (p.setScnt i x).scnt = p.scnt.set i x := rfl
@[simp] theorem Part.setScnt_supv (p : Part) (i : SectionId) (x : SectionRec) : (p.setScnt i x).supv = p.supv := rfl
@[simp] theorem Part.setScnt_gen (p : Part) (i : SectionId) (x : SectionRec) : (p.setScnt i x).gen = p.gen := rfl
@[simp] theorem Part.setScnt_slots (p : Part) (i : SectionId) (x : SectionRec) : (p.setScnt i x).slots = p.slots := rfl
@[simp] theorem Part.setScnt_jrnl (p : Part) (i : SectionId) (x : SectionRec) : (p.setScnt i x).jrnl = p.jrnl := rfl
@[simp] theorem Part.setScnt_topo (p : Part) (i : SectionId) (x : SectionRec) : (p.setScnt i x).topo = p.topo := rfl
@[simp] theorem Part.setScnt_tbase (p : Part) (i : SectionId) (x : SectionRec) : (p.setScnt i x).tbase = p.tbase := rfl
@[simp] theorem Part.setScnt_ticks (p : Part) (i : SectionId) (x : SectionRec) : (p.setScnt i x).ticks = p.ticks := rfl
@[simp] theorem Part.setScnt_sent (p : Part) (i : SectionId) (x : SectionRec) : (p.setScnt i x).sent = p.sent := rfl

@[simp] theorem Part.setSlot_hdec (p : Part) (n : SlotId) (x : Slot) : (p.setSlot n x).hdec = p.hdec := rfl
@[simp] theorem Part.setSlot_scnt (p : Part) (n : SlotId) (x : Slot) : (p.setSlot n x).scnt = p.scnt := rfl
@[simp] theorem Part.setSlot_supv (p : Part) (n : SlotId) (x : Slot) : (p.setSlot n x).supv = p.supv := rfl
@[simp] theorem Part.setSlot_gen (p : Part) (n : SlotId) (x : Slot) : (p.setSlot n x).gen = p.gen := rfl
@[simp] theorem Part.setSlot_slots (p : Part) (n : SlotId) (x : Slot) : (p.setSlot n x).slots = p.slots.set n x := rfl
@[simp] theorem Part.setSlot_jrnl (p : Part) (n : SlotId) (x : Slot) : (p.setSlot n x).jrnl = p.jrnl := rfl
@[simp] theorem Part.setSlot_topo (p : Part) (n : SlotId) (x : Slot) : (p.setSlot n x).topo = p.topo := rfl
@[simp] theorem Part.setSlot_tbase (p : Part) (n : SlotId) (x : Slot) : (p.setSlot n x).tbase = p.tbase := rfl
@[simp] theorem Part.setSlot_ticks (p : Part) (n : SlotId) (x : Slot) : (p.setSlot n x).ticks = p.ticks := rfl
@[simp] theorem Part.setSlot_sent (p : Part) (n : SlotId) (x : Slot) : (p.setSlot n x).sent = p.sent := rfl

@[simp] theorem Part.setGen_hdec (p : Part) (x : Generator) : (p.setGen x).hdec = p.hdec := rfl
@[simp] theorem Part.setGen_scnt (p : Part) (x : Generator) : (p.setGen x).scnt = p.scnt := rfl
@[simp] theorem Part.setGen_supv (p : Part) (x : Generator) : (p.setGen x).supv = p.supv := rfl
@[simp] theorem Part.setGen_gen (p : Part) (x : Generator) : (p.setGen x).gen = x := rfl
@[simp] theorem Part.setGen_slots (p : Part) (x : Generator) : (p.setGen x).slots = p.slots := rfl
@[simp] theorem Part.setGen_jrnl (p : Part) (x : Generator) : (p.setGen x).jrnl = p.jrnl := rfl
@[simp] theorem Part.setGen_topo (p : Part) (x : Generator) : (p.setGen x).topo = p.topo := rfl
@[simp] theorem Part.setGen_tbase (p : Part) (x : Generator) : (p.setGen x).tbase = p.tbase := rfl
@[simp] theorem Part.setGen_ticks (p : Part) (x : Generator) : (p.setGen x).ticks = p.ticks := rfl
@[simp] theorem Part.setGen_sent (p : Part) (x : Generator) : (p.setGen x).sent = p.sent := rfl

@[simp] theorem Part.setJrnl_hdec (p : Part) (x : Journal) : (p.setJrnl x).hdec = p.hdec := rfl
@[simp] theorem Part.setJrnl_scnt (p : Part) (x : Journal) : (p.setJrnl x).scnt = p.scnt := rfl
@[simp] theorem Part.setJrnl_supv (p : Part) (x : Journal) : (p.setJrnl x).supv = p.supv := rfl
@[simp] theorem Part.setJrnl_gen (p : Part) (x : Journal) : (p.setJrnl x).gen = p.gen := rfl
@[simp] theorem Part.setJrnl_slots (p : Part) (x : Journal) : (p.setJrnl x).slots = p.slots := rfl
@[simp] theorem Part.setJrnl_jrnl (p : Part) (x : Journal) : (p.setJrnl x).jrnl = x := rfl
@[simp] theorem Part.setJrnl_topo (p : Part) (x : Journal) : (p.setJrnl x).topo = p.topo := rfl
@[simp] theorem Part.setJrnl_tbase (p : Part) (x : Journal) : (p.setJrnl x).tbase = p.tbase := rfl
@[simp] theorem Part.setJrnl_ticks (p : Part) (x : Journal) : (p.setJrnl x).ticks = p.ticks := rfl
@[simp] theorem Part.setJrnl_sent (p : Part) (x : Journal) : (p.setJrnl x).sent = p.sent := rfl

@[simp] theorem Part.setTopo_hdec (p : Part) (x : Topology) : (p.setTopo x).hdec = p.hdec := rfl
@[simp] theorem Part.setTopo_scnt (p : Part) (x : Topology) : (p.setTopo x).scnt = p.scnt := rfl
@[simp] theorem Part.setTopo_supv (p : Part) (x : Topology) : (p.setTopo x).supv = p.supv := rfl
@[simp] theorem Part.setTopo_gen (p : Part) (x : Topology) : (p.setTopo x).gen = p.gen := rfl
@[simp] theorem Part.setTopo_slots (p : Part) (x : Topology) : (p.setTopo x).slots = p.slots := rfl
@[simp] theorem Part.setTopo_jrnl (p : Part) (x : Topology) : (p.setTopo x).jrnl = p.jrnl := rfl
@[simp] theorem Part.setTopo_topo (p : Part) (x : Topology) : (p.setTopo x).topo = x := rfl
@[simp] theorem Part.setTopo_tbase (p : Part) (x : Topology) : (p.setTopo x).tbase = p.tbase := rfl
@[simp] theorem Part.setTopo_ticks (p : Part) (x : Topology) : (p.setTopo x).ticks = p.ticks := rfl
@[simp] theorem Part.setTopo_sent (p : Part) (x : Topology) : (p.setTopo x).sent = p.sent := rfl

@[simp] theorem Part.setTbase_hdec (p : Part) (x : Timebase) : (p.setTbase x).hdec = p.hdec := rfl
@[simp] theorem Part.setTbase_scnt (p : Part) (x : Timebase) : (p.setTbase x).scnt = p.scnt := rfl
@[simp] theorem Part.setTbase_supv (p : Part) (x : Timebase) : (p.setTbase x).supv = p.supv := rfl
@[simp] theorem Part.setTbase_gen (p : Part) (x : Timebase) : (p.setTbase x).gen = p.gen := rfl
@[simp] theorem Part.setTbase_slots (p : Part) (x : Timebase) : (p.setTbase x).slots = p.slots := rfl
@[simp] theorem Part.setTbase_jrnl (p : Part) (x : Timebase) : (p.setTbase x).jrnl = p.jrnl := rfl
@[simp] theorem Part.setTbase_topo (p : Part) (x : Timebase) : (p.setTbase x).topo = p.topo := rfl
@[simp] theorem Part.setTbase_tbase (p : Part) (x : Timebase) : (p.setTbase x).tbase = x := rfl
@[simp] theorem Part.setTbase_ticks (p : Part) (x : Timebase) : (p.setTbase x).ticks = p.ticks := rfl
@[simp] theorem Part.setTbase_sent (p : Part) (x : Timebase) : (p.setTbase x).sent = p.sent := rfl

@[simp] theorem Part.setTicks_hdec (p : Part) (x : Ticks) : (p.setTicks x).hdec = p.hdec := rfl
@[simp] theorem Part.setTicks_scnt (p : Part) (x : Ticks) : (p.setTicks x).scnt = p.scnt := rfl
@[simp] theorem Part.setTicks_supv (p : Part) (x : Ticks) : (p.setTicks x).supv = p.supv := rfl
@[simp] theorem Part.setTicks_gen (p : Part) (x : Ticks) : (p.setTicks x).gen = p.gen := rfl
@[simp] theorem Part.setTicks_slots (p : Part) (x : Ticks) : (p.setTicks x).slots = p.slots := rfl
@[simp] theorem Part.setTicks_jrnl (p : Part) (x : Ticks) : (p.setTicks x).jrnl = p.jrnl := rfl
@[simp] theorem Part.setTicks_topo (p : Part) (x : Ticks) : (p.setTicks x).topo = p.topo := rfl
@[simp] theorem Part.setTicks_tbase (p : Part) (x : Ticks) : (p.setTicks x).tbase = p.tbase := rfl
@[simp] theorem Part.setTicks_ticks (p : Part) (x : Ticks) : (p.setTicks x).ticks = x := rfl
@[simp] theorem Part.setTicks_sent (p : Part) (x : Ticks) : (p.setTicks x).sent = p.sent := rfl

@[simp] theorem Part.setSent_hdec (p : Part) (x : InFlight) : (p.setSent x).hdec = p.hdec := rfl
@[simp] theorem Part.setSent_scnt (p : Part) (x : InFlight) : (p.setSent x).scnt = p.scnt := rfl
@[simp] theorem Part.setSent_supv (p : Part) (x : InFlight) : (p.setSent x).supv = p.supv := rfl
@[simp] theorem Part.setSent_gen (p : Part) (x : InFlight) : (p.setSent x).gen = p.gen := rfl
@[simp] theorem Part.setSent_slots (p : Part) (x : InFlight) : (p.setSent x).slots = p.slots := rfl
@[simp] theorem Part.setSent_jrnl (p : Part) (x : InFlight) : (p.setSent x).jrnl = p.jrnl := rfl
@[simp] theorem Part.setSent_topo (p : Part) (x : InFlight) : (p.setSent x).topo = p.topo := rfl
@[simp] theorem Part.setSent_tbase (p : Part) (x : InFlight) : (p.setSent x).tbase = p.tbase := rfl
@[simp] theorem Part.setSent_ticks (p : Part) (x : InFlight) : (p.setSent x).ticks = p.ticks := rfl
@[simp] theorem Part.setSent_sent (p : Part) (x : InFlight) : (p.setSent x).sent = x := rfl

/-! ### Events sent -/

@[simp] theorem Part.sendScnt_hdec (p : Part) (m : ToScnt) : (p.sendScnt m).hdec = p.hdec := rfl
@[simp] theorem Part.sendScnt_scnt (p : Part) (m : ToScnt) : (p.sendScnt m).scnt = p.scnt := rfl
@[simp] theorem Part.sendScnt_supv (p : Part) (m : ToScnt) : (p.sendScnt m).supv = p.supv := rfl
@[simp] theorem Part.sendScnt_gen (p : Part) (m : ToScnt) : (p.sendScnt m).gen = p.gen := rfl
@[simp] theorem Part.sendScnt_slots (p : Part) (m : ToScnt) : (p.sendScnt m).slots = p.slots := rfl
@[simp] theorem Part.sendScnt_jrnl (p : Part) (m : ToScnt) : (p.sendScnt m).jrnl = p.jrnl := rfl
@[simp] theorem Part.sendScnt_topo (p : Part) (m : ToScnt) : (p.sendScnt m).topo = p.topo := rfl
@[simp] theorem Part.sendScnt_tbase (p : Part) (m : ToScnt) : (p.sendScnt m).tbase = p.tbase := rfl
@[simp] theorem Part.sendScnt_ticks (p : Part) (m : ToScnt) : (p.sendScnt m).ticks = p.ticks := rfl
@[simp] theorem Part.sendScnt_sent (p : Part) (m : ToScnt) : (p.sendScnt m).sent = { p.sent with scnt := p.sent.scnt ++ [m] } := rfl

@[simp] theorem Part.sendSupv_hdec (p : Part) (m : ToSupv) : (p.sendSupv m).hdec = p.hdec := rfl
@[simp] theorem Part.sendSupv_scnt (p : Part) (m : ToSupv) : (p.sendSupv m).scnt = p.scnt := rfl
@[simp] theorem Part.sendSupv_supv (p : Part) (m : ToSupv) : (p.sendSupv m).supv = p.supv := rfl
@[simp] theorem Part.sendSupv_gen (p : Part) (m : ToSupv) : (p.sendSupv m).gen = p.gen := rfl
@[simp] theorem Part.sendSupv_slots (p : Part) (m : ToSupv) : (p.sendSupv m).slots = p.slots := rfl
@[simp] theorem Part.sendSupv_jrnl (p : Part) (m : ToSupv) : (p.sendSupv m).jrnl = p.jrnl := rfl
@[simp] theorem Part.sendSupv_topo (p : Part) (m : ToSupv) : (p.sendSupv m).topo = p.topo := rfl
@[simp] theorem Part.sendSupv_tbase (p : Part) (m : ToSupv) : (p.sendSupv m).tbase = p.tbase := rfl
@[simp] theorem Part.sendSupv_ticks (p : Part) (m : ToSupv) : (p.sendSupv m).ticks = p.ticks := rfl
@[simp] theorem Part.sendSupv_sent (p : Part) (m : ToSupv) : (p.sendSupv m).sent = { p.sent with supv := p.sent.supv ++ [m] } := rfl

@[simp] theorem Part.sendRecovered_hdec (p : Part) (m : HeadId) : (p.sendRecovered m).hdec = p.hdec := rfl
@[simp] theorem Part.sendRecovered_scnt (p : Part) (m : HeadId) : (p.sendRecovered m).scnt = p.scnt := rfl
@[simp] theorem Part.sendRecovered_supv (p : Part) (m : HeadId) : (p.sendRecovered m).supv = p.supv := rfl
@[simp] theorem Part.sendRecovered_gen (p : Part) (m : HeadId) : (p.sendRecovered m).gen = p.gen := rfl
@[simp] theorem Part.sendRecovered_slots (p : Part) (m : HeadId) : (p.sendRecovered m).slots = p.slots := rfl
@[simp] theorem Part.sendRecovered_jrnl (p : Part) (m : HeadId) : (p.sendRecovered m).jrnl = p.jrnl := rfl
@[simp] theorem Part.sendRecovered_topo (p : Part) (m : HeadId) : (p.sendRecovered m).topo = p.topo := rfl
@[simp] theorem Part.sendRecovered_tbase (p : Part) (m : HeadId) : (p.sendRecovered m).tbase = p.tbase := rfl
@[simp] theorem Part.sendRecovered_ticks (p : Part) (m : HeadId) : (p.sendRecovered m).ticks = p.ticks := rfl
@[simp] theorem Part.sendRecovered_sent (p : Part) (m : HeadId) : (p.sendRecovered m).sent = { p.sent with recovered := p.sent.recovered ++ [m] } := rfl

@[simp] theorem Part.sendCopy_hdec (p : Part) (m : EdgeCopy) : (p.sendCopy m).hdec = p.hdec := rfl
@[simp] theorem Part.sendCopy_scnt (p : Part) (m : EdgeCopy) : (p.sendCopy m).scnt = p.scnt := rfl
@[simp] theorem Part.sendCopy_supv (p : Part) (m : EdgeCopy) : (p.sendCopy m).supv = p.supv := rfl
@[simp] theorem Part.sendCopy_gen (p : Part) (m : EdgeCopy) : (p.sendCopy m).gen = p.gen := rfl
@[simp] theorem Part.sendCopy_slots (p : Part) (m : EdgeCopy) : (p.sendCopy m).slots = p.slots := rfl
@[simp] theorem Part.sendCopy_jrnl (p : Part) (m : EdgeCopy) : (p.sendCopy m).jrnl = p.jrnl := rfl
@[simp] theorem Part.sendCopy_topo (p : Part) (m : EdgeCopy) : (p.sendCopy m).topo = p.topo := rfl
@[simp] theorem Part.sendCopy_tbase (p : Part) (m : EdgeCopy) : (p.sendCopy m).tbase = p.tbase := rfl
@[simp] theorem Part.sendCopy_ticks (p : Part) (m : EdgeCopy) : (p.sendCopy m).ticks = p.ticks := rfl
@[simp] theorem Part.sendCopy_sent (p : Part) (m : EdgeCopy) : (p.sendCopy m).sent = { p.sent with copies := p.sent.copies ++ [m] } := rfl

@[simp] theorem Part.sendAsk_hdec (p : Part) (m : SampleAsk) : (p.sendAsk m).hdec = p.hdec := rfl
@[simp] theorem Part.sendAsk_scnt (p : Part) (m : SampleAsk) : (p.sendAsk m).scnt = p.scnt := rfl
@[simp] theorem Part.sendAsk_supv (p : Part) (m : SampleAsk) : (p.sendAsk m).supv = p.supv := rfl
@[simp] theorem Part.sendAsk_gen (p : Part) (m : SampleAsk) : (p.sendAsk m).gen = p.gen := rfl
@[simp] theorem Part.sendAsk_slots (p : Part) (m : SampleAsk) : (p.sendAsk m).slots = p.slots := rfl
@[simp] theorem Part.sendAsk_jrnl (p : Part) (m : SampleAsk) : (p.sendAsk m).jrnl = p.jrnl := rfl
@[simp] theorem Part.sendAsk_topo (p : Part) (m : SampleAsk) : (p.sendAsk m).topo = p.topo := rfl
@[simp] theorem Part.sendAsk_tbase (p : Part) (m : SampleAsk) : (p.sendAsk m).tbase = p.tbase := rfl
@[simp] theorem Part.sendAsk_ticks (p : Part) (m : SampleAsk) : (p.sendAsk m).ticks = p.ticks := rfl
@[simp] theorem Part.sendAsk_sent (p : Part) (m : SampleAsk) : (p.sendAsk m).sent = { p.sent with asks := p.sent.asks ++ [m] } := rfl

@[simp] theorem Part.sendAnswer_hdec (p : Part) (m : SampleAnswer) : (p.sendAnswer m).hdec = p.hdec := rfl
@[simp] theorem Part.sendAnswer_scnt (p : Part) (m : SampleAnswer) : (p.sendAnswer m).scnt = p.scnt := rfl
@[simp] theorem Part.sendAnswer_supv (p : Part) (m : SampleAnswer) : (p.sendAnswer m).supv = p.supv := rfl
@[simp] theorem Part.sendAnswer_gen (p : Part) (m : SampleAnswer) : (p.sendAnswer m).gen = p.gen := rfl
@[simp] theorem Part.sendAnswer_slots (p : Part) (m : SampleAnswer) : (p.sendAnswer m).slots = p.slots := rfl
@[simp] theorem Part.sendAnswer_jrnl (p : Part) (m : SampleAnswer) : (p.sendAnswer m).jrnl = p.jrnl := rfl
@[simp] theorem Part.sendAnswer_topo (p : Part) (m : SampleAnswer) : (p.sendAnswer m).topo = p.topo := rfl
@[simp] theorem Part.sendAnswer_tbase (p : Part) (m : SampleAnswer) : (p.sendAnswer m).tbase = p.tbase := rfl
@[simp] theorem Part.sendAnswer_ticks (p : Part) (m : SampleAnswer) : (p.sendAnswer m).ticks = p.ticks := rfl
@[simp] theorem Part.sendAnswer_sent (p : Part) (m : SampleAnswer) : (p.sendAnswer m).sent = { p.sent with answers := p.sent.answers ++ [m] } := rfl

@[simp] theorem Part.tookScnt_hdec (p : Part) (m : ToScnt) : (p.tookScnt m).hdec = p.hdec := rfl
@[simp] theorem Part.tookScnt_scnt (p : Part) (m : ToScnt) : (p.tookScnt m).scnt = p.scnt := rfl
@[simp] theorem Part.tookScnt_supv (p : Part) (m : ToScnt) : (p.tookScnt m).supv = p.supv := rfl
@[simp] theorem Part.tookScnt_gen (p : Part) (m : ToScnt) : (p.tookScnt m).gen = p.gen := rfl
@[simp] theorem Part.tookScnt_slots (p : Part) (m : ToScnt) : (p.tookScnt m).slots = p.slots := rfl
@[simp] theorem Part.tookScnt_jrnl (p : Part) (m : ToScnt) : (p.tookScnt m).jrnl = p.jrnl := rfl
@[simp] theorem Part.tookScnt_topo (p : Part) (m : ToScnt) : (p.tookScnt m).topo = p.topo := rfl
@[simp] theorem Part.tookScnt_tbase (p : Part) (m : ToScnt) : (p.tookScnt m).tbase = p.tbase := rfl
@[simp] theorem Part.tookScnt_ticks (p : Part) (m : ToScnt) : (p.tookScnt m).ticks = p.ticks := rfl
@[simp] theorem Part.tookScnt_sent (p : Part) (m : ToScnt) : (p.tookScnt m).sent = { p.sent with scnt := p.sent.scnt.erase m } := rfl

@[simp] theorem Part.tookSupv_hdec (p : Part) (m : ToSupv) : (p.tookSupv m).hdec = p.hdec := rfl
@[simp] theorem Part.tookSupv_scnt (p : Part) (m : ToSupv) : (p.tookSupv m).scnt = p.scnt := rfl
@[simp] theorem Part.tookSupv_supv (p : Part) (m : ToSupv) : (p.tookSupv m).supv = p.supv := rfl
@[simp] theorem Part.tookSupv_gen (p : Part) (m : ToSupv) : (p.tookSupv m).gen = p.gen := rfl
@[simp] theorem Part.tookSupv_slots (p : Part) (m : ToSupv) : (p.tookSupv m).slots = p.slots := rfl
@[simp] theorem Part.tookSupv_jrnl (p : Part) (m : ToSupv) : (p.tookSupv m).jrnl = p.jrnl := rfl
@[simp] theorem Part.tookSupv_topo (p : Part) (m : ToSupv) : (p.tookSupv m).topo = p.topo := rfl
@[simp] theorem Part.tookSupv_tbase (p : Part) (m : ToSupv) : (p.tookSupv m).tbase = p.tbase := rfl
@[simp] theorem Part.tookSupv_ticks (p : Part) (m : ToSupv) : (p.tookSupv m).ticks = p.ticks := rfl
@[simp] theorem Part.tookSupv_sent (p : Part) (m : ToSupv) : (p.tookSupv m).sent = { p.sent with supv := p.sent.supv.erase m } := rfl

@[simp] theorem Part.tookStale_hdec (p : Part) (m : ToSupv) : (p.tookStale m).hdec = p.hdec := rfl
@[simp] theorem Part.tookStale_scnt (p : Part) (m : ToSupv) : (p.tookStale m).scnt = p.scnt := rfl
@[simp] theorem Part.tookStale_supv (p : Part) (m : ToSupv) : (p.tookStale m).supv = p.supv := rfl
@[simp] theorem Part.tookStale_gen (p : Part) (m : ToSupv) : (p.tookStale m).gen = p.gen := rfl
@[simp] theorem Part.tookStale_slots (p : Part) (m : ToSupv) : (p.tookStale m).slots = p.slots := rfl
@[simp] theorem Part.tookStale_jrnl (p : Part) (m : ToSupv) : (p.tookStale m).jrnl = p.jrnl := rfl
@[simp] theorem Part.tookStale_topo (p : Part) (m : ToSupv) : (p.tookStale m).topo = p.topo := rfl
@[simp] theorem Part.tookStale_tbase (p : Part) (m : ToSupv) : (p.tookStale m).tbase = p.tbase := rfl
@[simp] theorem Part.tookStale_ticks (p : Part) (m : ToSupv) : (p.tookStale m).ticks = p.ticks := rfl
@[simp] theorem Part.tookStale_sent (p : Part) (m : ToSupv) : (p.tookStale m).sent = { p.sent with stale := p.sent.stale.erase m } := rfl

@[simp] theorem Part.staleReports_hdec (p : Part) (h : HeadId) : (p.staleReports h).hdec = p.hdec := rfl
@[simp] theorem Part.staleReports_scnt (p : Part) (h : HeadId) : (p.staleReports h).scnt = p.scnt := rfl
@[simp] theorem Part.staleReports_supv (p : Part) (h : HeadId) : (p.staleReports h).supv = p.supv := rfl
@[simp] theorem Part.staleReports_gen (p : Part) (h : HeadId) : (p.staleReports h).gen = p.gen := rfl
@[simp] theorem Part.staleReports_slots (p : Part) (h : HeadId) : (p.staleReports h).slots = p.slots := rfl
@[simp] theorem Part.staleReports_jrnl (p : Part) (h : HeadId) : (p.staleReports h).jrnl = p.jrnl := rfl
@[simp] theorem Part.staleReports_topo (p : Part) (h : HeadId) : (p.staleReports h).topo = p.topo := rfl
@[simp] theorem Part.staleReports_tbase (p : Part) (h : HeadId) : (p.staleReports h).tbase = p.tbase := rfl
@[simp] theorem Part.staleReports_ticks (p : Part) (h : HeadId) : (p.staleReports h).ticks = p.ticks := rfl
@[simp] theorem Part.staleReports_sent (p : Part) (h : HeadId) :
    (p.staleReports h).sent =
      { p.sent with
        supv := p.sent.supv.filter fun m => decide (m.head ≠ h)
        stale := p.sent.stale ++ p.sent.supv.filter fun m => decide (m.head = h) } := rfl

@[simp] theorem Part.tookRecovered_hdec (p : Part) (m : HeadId) : (p.tookRecovered m).hdec = p.hdec := rfl
@[simp] theorem Part.tookRecovered_scnt (p : Part) (m : HeadId) : (p.tookRecovered m).scnt = p.scnt := rfl
@[simp] theorem Part.tookRecovered_supv (p : Part) (m : HeadId) : (p.tookRecovered m).supv = p.supv := rfl
@[simp] theorem Part.tookRecovered_gen (p : Part) (m : HeadId) : (p.tookRecovered m).gen = p.gen := rfl
@[simp] theorem Part.tookRecovered_slots (p : Part) (m : HeadId) : (p.tookRecovered m).slots = p.slots := rfl
@[simp] theorem Part.tookRecovered_jrnl (p : Part) (m : HeadId) : (p.tookRecovered m).jrnl = p.jrnl := rfl
@[simp] theorem Part.tookRecovered_topo (p : Part) (m : HeadId) : (p.tookRecovered m).topo = p.topo := rfl
@[simp] theorem Part.tookRecovered_tbase (p : Part) (m : HeadId) : (p.tookRecovered m).tbase = p.tbase := rfl
@[simp] theorem Part.tookRecovered_ticks (p : Part) (m : HeadId) : (p.tookRecovered m).ticks = p.ticks := rfl
@[simp] theorem Part.tookRecovered_sent (p : Part) (m : HeadId) : (p.tookRecovered m).sent = { p.sent with recovered := p.sent.recovered.erase m } := rfl

/-! ### Updates of the whole -/

@[simp] theorem State.withPart_part (s : State) (p : Part) : (s.withPart p).part = p := rfl
@[simp] theorem State.withPart_path (s : State) (p : Part) : (s.withPart p).path = s.path := rfl
@[simp] theorem State.withPart_mem (s : State) (p : Part) : (s.withPart p).mem = s.mem := rfl
@[simp] theorem State.withPart_cuts (s : State) (p : Part) : (s.withPart p).cuts = s.cuts := rfl
@[simp] theorem State.withPart_pending (s : State) (p : Part) : (s.withPart p).pending = s.pending := rfl

@[simp] theorem State.complete_part (s : State) (c : Completion) : (s.complete c).part = s.part := rfl
@[simp] theorem State.complete_path (s : State) (c : Completion) : (s.complete c).path = { s.path with completed := some c } := rfl
@[simp] theorem State.complete_mem (s : State) (c : Completion) : (s.complete c).mem = s.mem := rfl
@[simp] theorem State.complete_cuts (s : State) (c : Completion) : (s.complete c).cuts = s.cuts := rfl
@[simp] theorem State.complete_pending (s : State) (c : Completion) : (s.complete c).pending = s.pending := rfl

@[simp] theorem State.pass_part (s : State) (a : Access) : (s.pass a).part = s.part := rfl
@[simp] theorem State.pass_path (s : State) (a : Access) : (s.pass a).path = { s.path with flight := some { access := a, holds := false, dropped := false } } := rfl
@[simp] theorem State.pass_mem (s : State) (a : Access) : (s.pass a).mem = s.mem := rfl
@[simp] theorem State.pass_cuts (s : State) (a : Access) : (s.pass a).cuts = s.cuts := rfl
@[simp] theorem State.pass_pending (s : State) (a : Access) : (s.pass a).pending = s.pending := rfl

/-! ### The port -/

@[simp] theorem Path.fallsFree_aps (x : Path) (a w : Bool) : (x.fallsFree a w).aps = x.aps := rfl
@[simp] theorem Path.fallsFree_waiting (x : Path) (a w : Bool) : (x.fallsFree a w).waiting = x.waiting := rfl
@[simp] theorem Path.fallsFree_flight (x : Path) (a w : Bool) : (x.fallsFree a w).flight = x.flight := rfl
@[simp] theorem Path.fallsFree_waitCount (x : Path) (a w : Bool) : (x.fallsFree a w).waitCount = x.waitCount := rfl
@[simp] theorem Path.fallsFree_accessWaited (x : Path) (a w : Bool) : (x.fallsFree a w).accessWaited = a := rfl
@[simp] theorem Path.fallsFree_wordWaited (x : Path) (a w : Bool) : (x.fallsFree a w).wordWaited = w := rfl
@[simp] theorem Path.fallsFree_jword (x : Path) (a w : Bool) : (x.fallsFree a w).jword = x.jword := rfl
@[simp] theorem Path.fallsFree_completed (x : Path) (a w : Bool) : (x.fallsFree a w).completed = x.completed := rfl
@[simp] theorem Path.fallsFree_porst (x : Path) (a w : Bool) : (x.fallsFree a w).porst = x.porst := rfl
@[simp] theorem Path.fallsFree_cpurst (x : Path) (a w : Bool) : (x.fallsFree a w).cpurst = x.cpurst := rfl

@[simp] theorem Path.startProcessor_aps (x : Path) : (x.startProcessor).aps = x.aps := rfl
@[simp] theorem Path.startProcessor_waiting (x : Path) : (x.startProcessor).waiting = x.waiting := rfl
@[simp] theorem Path.startProcessor_flight (x : Path) : (x.startProcessor).flight = x.flight.map fun f => { f with holds := true } := rfl
@[simp] theorem Path.startProcessor_waitCount (x : Path) : (x.startProcessor).waitCount = x.waitCount := rfl
@[simp] theorem Path.startProcessor_accessWaited (x : Path) : (x.startProcessor).accessWaited = false := rfl
@[simp] theorem Path.startProcessor_wordWaited (x : Path) : (x.startProcessor).wordWaited = false := rfl
@[simp] theorem Path.startProcessor_jword (x : Path) : (x.startProcessor).jword = x.jword := rfl
@[simp] theorem Path.startProcessor_completed (x : Path) : (x.startProcessor).completed = x.completed := rfl
@[simp] theorem Path.startProcessor_porst (x : Path) : (x.startProcessor).porst = x.porst := rfl
@[simp] theorem Path.startProcessor_cpurst (x : Path) : (x.startProcessor).cpurst = x.cpurst := rfl

@[simp] theorem Path.startJournal_aps (x : Path) (w : JournalWord) : (x.startJournal w).aps = x.aps := rfl
@[simp] theorem Path.startJournal_waiting (x : Path) (w : JournalWord) : (x.startJournal w).waiting = x.waiting := rfl
@[simp] theorem Path.startJournal_flight (x : Path) (w : JournalWord) : (x.startJournal w).flight = x.flight := rfl
@[simp] theorem Path.startJournal_waitCount (x : Path) (w : JournalWord) : (x.startJournal w).waitCount = 0 := rfl
@[simp] theorem Path.startJournal_accessWaited (x : Path) (w : JournalWord) : (x.startJournal w).accessWaited = false := rfl
@[simp] theorem Path.startJournal_wordWaited (x : Path) (w : JournalWord) : (x.startJournal w).wordWaited = false := rfl
@[simp] theorem Path.startJournal_jword (x : Path) (w : JournalWord) : (x.startJournal w).jword = some w := rfl
@[simp] theorem Path.startJournal_completed (x : Path) (w : JournalWord) : (x.startJournal w).completed = x.completed := rfl
@[simp] theorem Path.startJournal_porst (x : Path) (w : JournalWord) : (x.startJournal w).porst = x.porst := rfl
@[simp] theorem Path.startJournal_cpurst (x : Path) (w : JournalWord) : (x.startJournal w).cpurst = x.cpurst := rfl

/-! ### Reading a record of a table after an update -/

theorem Part.setHdec_get (p : Part) (h g : HeadId) (x : HeadDecoder) :
    (p.setHdec h x).hdec[g] = if h = g then x else p.hdec[g] := by
  simp [Vector.getElem_set, Fin.ext_iff]

theorem Part.setSupv_get (p : Part) (h g : HeadId) (x : HeadHealth) :
    (p.setSupv h x).supv[g] = if h = g then x else p.supv[g] := by
  simp [Vector.getElem_set, Fin.ext_iff]

theorem Part.setScnt_get (p : Part) (i j : SectionId) (x : SectionRec) :
    (p.setScnt i x).scnt[j] = if i = j then x else p.scnt[j] := by
  simp [Vector.getElem_set, Fin.ext_iff]

theorem Part.setSlot_get (p : Part) (n m : SlotId) (x : Slot) :
    (p.setSlot n x).slots[m] = if n = m then x else p.slots[m] := by
  simp [Vector.getElem_set, Fin.ext_iff]

/-! ### The two forms of an outcome -/

/-- The part that is up takes the command. -/
theorem State.powered_up (s t : State) (hs : s.path.porst = false) : s.powered t = .next t := by
  simp [State.powered, hs]

/-- Under PORST nothing is taken. -/
theorem State.powered_down (s t : State) (hs : s.path.porst = true) : s.powered t = .next s := by
  simp [State.powered, hs]

end Sys2Proof.Machine
end

