-- ==== Sys2Proof/Laws/Ops.lean ====
section
/-! SUPPORT. What each shared operation of Ops.lean leaves as it was, field by field, and what it does. -/

namespace Sys2Proof.Machine

open Sys2Proof

/-- What every step of a fold leaves, the fold leaves. -/
theorem foldl_frame {α β γ : Type} (f : α → β → α) (g : α → γ) (hf : ∀ a b, g (f a b) = g a) (l : List β) (a : α) :
    g (l.foldl f a) = g a := by
  induction l generalizing a with
  | nil => rfl
  | cons b l ih => rw [List.foldl_cons, ih, hf]

/-! ### A record touches JRNL alone -/

@[simp] theorem Part.record_hdec (p : Part) (now : Word) (d : Detail) : (p.record now d).hdec = p.hdec := by
  unfold Part.record; split <;> rfl

@[simp] theorem Part.record_scnt (p : Part) (now : Word) (d : Detail) : (p.record now d).scnt = p.scnt := by
  unfold Part.record; split <;> rfl

@[simp] theorem Part.record_supv (p : Part) (now : Word) (d : Detail) : (p.record now d).supv = p.supv := by
  unfold Part.record; split <;> rfl

@[simp] theorem Part.record_gen (p : Part) (now : Word) (d : Detail) : (p.record now d).gen = p.gen := by
  unfold Part.record; split <;> rfl

@[simp] theorem Part.record_slots (p : Part) (now : Word) (d : Detail) : (p.record now d).slots = p.slots := by
  unfold Part.record; split <;> rfl

@[simp] theorem Part.record_topo (p : Part) (now : Word) (d : Detail) : (p.record now d).topo = p.topo := by
  unfold Part.record; split <;> rfl

@[simp] theorem Part.record_tbase (p : Part) (now : Word) (d : Detail) : (p.record now d).tbase = p.tbase := by
  unfold Part.record; split <;> rfl

@[simp] theorem Part.record_ticks (p : Part) (now : Word) (d : Detail) : (p.record now d).ticks = p.ticks := by
  unfold Part.record; split <;> rfl

@[simp] theorem Part.record_sent (p : Part) (now : Word) (d : Detail) : (p.record now d).sent = p.sent := by
  unfold Part.record; split <;> rfl

/-! ### The end of standing touches JRNL alone -/

@[simp] theorem Part.standingEnd_hdec (p : Part) (now : Word) (h : HeadId) (b : Bool) : (p.standingEnd now h b).hdec = p.hdec := by
  unfold Part.standingEnd; split <;> simp

@[simp] theorem Part.standingEnd_scnt (p : Part) (now : Word) (h : HeadId) (b : Bool) : (p.standingEnd now h b).scnt = p.scnt := by
  unfold Part.standingEnd; split <;> simp

@[simp] theorem Part.standingEnd_supv (p : Part) (now : Word) (h : HeadId) (b : Bool) : (p.standingEnd now h b).supv = p.supv := by
  unfold Part.standingEnd; split <;> simp

@[simp] theorem Part.standingEnd_gen (p : Part) (now : Word) (h : HeadId) (b : Bool) : (p.standingEnd now h b).gen = p.gen := by
  unfold Part.standingEnd; split <;> simp

@[simp] theorem Part.standingEnd_slots (p : Part) (now : Word) (h : HeadId) (b : Bool) : (p.standingEnd now h b).slots = p.slots := by
  unfold Part.standingEnd; split <;> simp

@[simp] theorem Part.standingEnd_topo (p : Part) (now : Word) (h : HeadId) (b : Bool) : (p.standingEnd now h b).topo = p.topo := by
  unfold Part.standingEnd; split <;> simp

@[simp] theorem Part.standingEnd_tbase (p : Part) (now : Word) (h : HeadId) (b : Bool) : (p.standingEnd now h b).tbase = p.tbase := by
  unfold Part.standingEnd; split <;> simp

@[simp] theorem Part.standingEnd_ticks (p : Part) (now : Word) (h : HeadId) (b : Bool) : (p.standingEnd now h b).ticks = p.ticks := by
  unfold Part.standingEnd; split <;> simp

@[simp] theorem Part.standingEnd_sent (p : Part) (now : Word) (h : HeadId) (b : Bool) : (p.standingEnd now h b).sent = p.sent := by
  unfold Part.standingEnd; split <;> simp

/-! ### A head put in OFF touches HDEC and JRNL -/

@[simp] theorem Part.headOff_scnt (p : Part) (now : Word) (h : HeadId) : (p.headOff now h).scnt = p.scnt := by
  simp [Part.headOff]

@[simp] theorem Part.headOff_supv (p : Part) (now : Word) (h : HeadId) : (p.headOff now h).supv = p.supv := by
  simp [Part.headOff]

@[simp] theorem Part.headOff_gen (p : Part) (now : Word) (h : HeadId) : (p.headOff now h).gen = p.gen := by
  simp [Part.headOff]

@[simp] theorem Part.headOff_slots (p : Part) (now : Word) (h : HeadId) : (p.headOff now h).slots = p.slots := by
  simp [Part.headOff]

@[simp] theorem Part.headOff_topo (p : Part) (now : Word) (h : HeadId) : (p.headOff now h).topo = p.topo := by
  simp [Part.headOff]

@[simp] theorem Part.headOff_tbase (p : Part) (now : Word) (h : HeadId) : (p.headOff now h).tbase = p.tbase := by
  simp [Part.headOff]

@[simp] theorem Part.headOff_ticks (p : Part) (now : Word) (h : HeadId) : (p.headOff now h).ticks = p.ticks := by
  simp [Part.headOff]

@[simp] theorem Part.headOff_sent (p : Part) (now : Word) (h : HeadId) : (p.headOff now h).sent = p.sent := by
  simp [Part.headOff]

/-! ### A final state touches REQE and JRNL -/

@[simp] theorem Part.finishSlot_hdec (p : Part) (now : Word) (n : SlotId) (st : SlotState) (r : Result) : (p.finishSlot now n st r).hdec = p.hdec := by
  simp [Part.finishSlot]

@[simp] theorem Part.finishSlot_scnt (p : Part) (now : Word) (n : SlotId) (st : SlotState) (r : Result) : (p.finishSlot now n st r).scnt = p.scnt := by
  simp [Part.finishSlot]

@[simp] theorem Part.finishSlot_supv (p : Part) (now : Word) (n : SlotId) (st : SlotState) (r : Result) : (p.finishSlot now n st r).supv = p.supv := by
  simp [Part.finishSlot]

@[simp] theorem Part.finishSlot_gen (p : Part) (now : Word) (n : SlotId) (st : SlotState) (r : Result) : (p.finishSlot now n st r).gen = p.gen := by
  simp [Part.finishSlot]

@[simp] theorem Part.finishSlot_topo (p : Part) (now : Word) (n : SlotId) (st : SlotState) (r : Result) : (p.finishSlot now n st r).topo = p.topo := by
  simp [Part.finishSlot]

@[simp] theorem Part.finishSlot_tbase (p : Part) (now : Word) (n : SlotId) (st : SlotState) (r : Result) : (p.finishSlot now n st r).tbase = p.tbase := by
  simp [Part.finishSlot]

@[simp] theorem Part.finishSlot_ticks (p : Part) (now : Word) (n : SlotId) (st : SlotState) (r : Result) : (p.finishSlot now n st r).ticks = p.ticks := by
  simp [Part.finishSlot]

@[simp] theorem Part.finishSlot_sent (p : Part) (now : Word) (n : SlotId) (st : SlotState) (r : Result) : (p.finishSlot now n st r).sent = p.sent := by
  simp [Part.finishSlot]

/-! ### A report touches REQE and JRNL -/

@[simp] theorem Part.report_hdec (p : Part) (now : Word) (n : SlotId) (k t : Nat) (st : SlotState) (r : Result) : (p.report now n k t st r).hdec = p.hdec := by
  unfold Part.report; split <;> simp

@[simp] theorem Part.report_scnt (p : Part) (now : Word) (n : SlotId) (k t : Nat) (st : SlotState) (r : Result) : (p.report now n k t st r).scnt = p.scnt := by
  unfold Part.report; split <;> simp

@[simp] theorem Part.report_supv (p : Part) (now : Word) (n : SlotId) (k t : Nat) (st : SlotState) (r : Result) : (p.report now n k t st r).supv = p.supv := by
  unfold Part.report; split <;> simp

@[simp] theorem Part.report_gen (p : Part) (now : Word) (n : SlotId) (k t : Nat) (st : SlotState) (r : Result) : (p.report now n k t st r).gen = p.gen := by
  unfold Part.report; split <;> simp

@[simp] theorem Part.report_topo (p : Part) (now : Word) (n : SlotId) (k t : Nat) (st : SlotState) (r : Result) : (p.report now n k t st r).topo = p.topo := by
  unfold Part.report; split <;> simp

@[simp] theorem Part.report_tbase (p : Part) (now : Word) (n : SlotId) (k t : Nat) (st : SlotState) (r : Result) : (p.report now n k t st r).tbase = p.tbase := by
  unfold Part.report; split <;> simp

@[simp] theorem Part.report_ticks (p : Part) (now : Word) (n : SlotId) (k t : Nat) (st : SlotState) (r : Result) : (p.report now n k t st r).ticks = p.ticks := by
  unfold Part.report; split <;> simp

@[simp] theorem Part.report_sent (p : Part) (now : Word) (n : SlotId) (k t : Nat) (st : SlotState) (r : Result) : (p.report now n k t st r).sent = p.sent := by
  unfold Part.report; split <;> simp

/-! ### A broken sweep touches REQE and JRNL -/

@[simp] theorem Part.reportBroken_hdec (p : Part) (now : Word) (i : SectionId) (b : Option SlotId) : (p.reportBroken now i b).hdec = p.hdec := by
  unfold Part.reportBroken; split <;> simp

@[simp] theorem Part.reportBroken_scnt (p : Part) (now : Word) (i : SectionId) (b : Option SlotId) : (p.reportBroken now i b).scnt = p.scnt := by
  unfold Part.reportBroken; split <;> simp

@[simp] theorem Part.reportBroken_supv (p : Part) (now : Word) (i : SectionId) (b : Option SlotId) : (p.reportBroken now i b).supv = p.supv := by
  unfold Part.reportBroken; split <;> simp

@[simp] theorem Part.reportBroken_gen (p : Part) (now : Word) (i : SectionId) (b : Option SlotId) : (p.reportBroken now i b).gen = p.gen := by
  unfold Part.reportBroken; split <;> simp

@[simp] theorem Part.reportBroken_topo (p : Part) (now : Word) (i : SectionId) (b : Option SlotId) : (p.reportBroken now i b).topo = p.topo := by
  unfold Part.reportBroken; split <;> simp

@[simp] theorem Part.reportBroken_tbase (p : Part) (now : Word) (i : SectionId) (b : Option SlotId) : (p.reportBroken now i b).tbase = p.tbase := by
  unfold Part.reportBroken; split <;> simp

@[simp] theorem Part.reportBroken_ticks (p : Part) (now : Word) (i : SectionId) (b : Option SlotId) : (p.reportBroken now i b).ticks = p.ticks := by
  unfold Part.reportBroken; split <;> simp

@[simp] theorem Part.reportBroken_sent (p : Part) (now : Word) (i : SectionId) (b : Option SlotId) : (p.reportBroken now i b).sent = p.sent := by
  unfold Part.reportBroken; split <;> simp

/-! ### An update of a section touches SCNT and JRNL -/

@[simp] theorem Part.updateSection_hdec (p : Part) (now : Word) (i : SectionId) (x : SectionRec) : (p.updateSection now i x).hdec = p.hdec := by
  simp only [Part.updateSection]; split <;> simp

@[simp] theorem Part.updateSection_supv (p : Part) (now : Word) (i : SectionId) (x : SectionRec) : (p.updateSection now i x).supv = p.supv := by
  simp only [Part.updateSection]; split <;> simp

@[simp] theorem Part.updateSection_gen (p : Part) (now : Word) (i : SectionId) (x : SectionRec) : (p.updateSection now i x).gen = p.gen := by
  simp only [Part.updateSection]; split <;> simp

@[simp] theorem Part.updateSection_slots (p : Part) (now : Word) (i : SectionId) (x : SectionRec) : (p.updateSection now i x).slots = p.slots := by
  simp only [Part.updateSection]; split <;> simp

@[simp] theorem Part.updateSection_topo (p : Part) (now : Word) (i : SectionId) (x : SectionRec) : (p.updateSection now i x).topo = p.topo := by
  simp only [Part.updateSection]; split <;> simp

@[simp] theorem Part.updateSection_tbase (p : Part) (now : Word) (i : SectionId) (x : SectionRec) : (p.updateSection now i x).tbase = p.tbase := by
  simp only [Part.updateSection]; split <;> simp

@[simp] theorem Part.updateSection_ticks (p : Part) (now : Word) (i : SectionId) (x : SectionRec) : (p.updateSection now i x).ticks = p.ticks := by
  simp only [Part.updateSection]; split <;> simp

@[simp] theorem Part.updateSection_sent (p : Part) (now : Word) (i : SectionId) (x : SectionRec) : (p.updateSection now i x).sent = p.sent := by
  simp only [Part.updateSection]; split <;> simp

/-! ### An event at sections touches SCNT, REQE and JRNL -/

@[simp] theorem Part.applySections_hdec (p : Part) (now : Word) (l : List (SectionId × SectionRec)) : (p.applySections now l).hdec = p.hdec := by
  exact (foldl_frame _ (fun q : Part => q.hdec) (fun _ _ => Part.reportBroken_hdec _ _ _ _) l _).trans
    (foldl_frame _ (fun q : Part => q.hdec) (fun _ _ => Part.updateSection_hdec _ _ _ _) l _)

@[simp] theorem Part.applySections_supv (p : Part) (now : Word) (l : List (SectionId × SectionRec)) : (p.applySections now l).supv = p.supv := by
  exact (foldl_frame _ (fun q : Part => q.supv) (fun _ _ => Part.reportBroken_supv _ _ _ _) l _).trans
    (foldl_frame _ (fun q : Part => q.supv) (fun _ _ => Part.updateSection_supv _ _ _ _) l _)

@[simp] theorem Part.applySections_gen (p : Part) (now : Word) (l : List (SectionId × SectionRec)) : (p.applySections now l).gen = p.gen := by
  exact (foldl_frame _ (fun q : Part => q.gen) (fun _ _ => Part.reportBroken_gen _ _ _ _) l _).trans
    (foldl_frame _ (fun q : Part => q.gen) (fun _ _ => Part.updateSection_gen _ _ _ _) l _)

@[simp] theorem Part.applySections_topo (p : Part) (now : Word) (l : List (SectionId × SectionRec)) : (p.applySections now l).topo = p.topo := by
  exact (foldl_frame _ (fun q : Part => q.topo) (fun _ _ => Part.reportBroken_topo _ _ _ _) l _).trans
    (foldl_frame _ (fun q : Part => q.topo) (fun _ _ => Part.updateSection_topo _ _ _ _) l _)

@[simp] theorem Part.applySections_tbase (p : Part) (now : Word) (l : List (SectionId × SectionRec)) : (p.applySections now l).tbase = p.tbase := by
  exact (foldl_frame _ (fun q : Part => q.tbase) (fun _ _ => Part.reportBroken_tbase _ _ _ _) l _).trans
    (foldl_frame _ (fun q : Part => q.tbase) (fun _ _ => Part.updateSection_tbase _ _ _ _) l _)

@[simp] theorem Part.applySections_ticks (p : Part) (now : Word) (l : List (SectionId × SectionRec)) : (p.applySections now l).ticks = p.ticks := by
  exact (foldl_frame _ (fun q : Part => q.ticks) (fun _ _ => Part.reportBroken_ticks _ _ _ _) l _).trans
    (foldl_frame _ (fun q : Part => q.ticks) (fun _ _ => Part.updateSection_ticks _ _ _ _) l _)

@[simp] theorem Part.applySections_sent (p : Part) (now : Word) (l : List (SectionId × SectionRec)) : (p.applySections now l).sent = p.sent := by
  exact (foldl_frame _ (fun q : Part => q.sent) (fun _ _ => Part.reportBroken_sent _ _ _ _) l _).trans
    (foldl_frame _ (fun q : Part => q.sent) (fun _ _ => Part.updateSection_sent _ _ _ _) l _)

/-! ### A disturbance touches SCNT, REQE and JRNL -/

@[simp] theorem Part.disturbAdjacent_hdec (p : Part) (now : Word) (h : HeadId) (c : Cause) : (p.disturbAdjacent now h c).hdec = p.hdec := by
  simp [Part.disturbAdjacent]

@[simp] theorem Part.disturbAdjacent_supv (p : Part) (now : Word) (h : HeadId) (c : Cause) : (p.disturbAdjacent now h c).supv = p.supv := by
  simp [Part.disturbAdjacent]

@[simp] theorem Part.disturbAdjacent_gen (p : Part) (now : Word) (h : HeadId) (c : Cause) : (p.disturbAdjacent now h c).gen = p.gen := by
  simp [Part.disturbAdjacent]

@[simp] theorem Part.disturbAdjacent_topo (p : Part) (now : Word) (h : HeadId) (c : Cause) : (p.disturbAdjacent now h c).topo = p.topo := by
  simp [Part.disturbAdjacent]

@[simp] theorem Part.disturbAdjacent_tbase (p : Part) (now : Word) (h : HeadId) (c : Cause) : (p.disturbAdjacent now h c).tbase = p.tbase := by
  simp [Part.disturbAdjacent]

@[simp] theorem Part.disturbAdjacent_ticks (p : Part) (now : Word) (h : HeadId) (c : Cause) : (p.disturbAdjacent now h c).ticks = p.ticks := by
  simp [Part.disturbAdjacent]

@[simp] theorem Part.disturbAdjacent_sent (p : Part) (now : Word) (h : HeadId) (c : Cause) : (p.disturbAdjacent now h c).sent = p.sent := by
  simp [Part.disturbAdjacent]

/-! ### What they do -/

/-- While the part counts, a record goes to the journal. -/
theorem Part.record_jrnl (p : Part) (now : Word) (d : Detail) (hm : p.topo.mode = .running)
    (ha : p.jrnl.active = true) : (p.record now d).jrnl = p.journalAfter now d := by
  simp [Part.record, Part.running, hm, ha, Part.journalAfter]

/-- While the part counts, a record changes the journal and nothing else. -/
theorem Part.record_counting (p : Part) (now : Word) (d : Detail) (hm : p.topo.mode = .running)
    (ha : p.jrnl.active = true) : p.record now d = { p with jrnl := p.journalAfter now d } := by
  simp [Part.record, Part.running, hm, ha, Part.journalAfter, Part.setJrnl]

/-- Outside RUNNING, or with JRNL inactive, a record is none. -/
theorem Part.record_none (p : Part) (now : Word) (d : Detail)
    (h : p.topo.mode ≠ .running ∨ p.jrnl.active = false) : p.record now d = p := by
  rcases h with h | h <;> simp [Part.record, Part.running, h]

/-- The new record of a section stands after its update. -/
theorem Part.updateSection_get (p : Part) (now : Word) (i j : SectionId) (x : SectionRec) :
    (p.updateSection now i x).scnt[j] = if i = j then SectionRec.counted p.scnt[i] x else p.scnt[j] := by
  have h : (p.updateSection now i x).scnt = p.scnt.set i (SectionRec.counted p.scnt[i] x) := by
    simp only [Part.updateSection]; split <;> simp
  simp [h, Vector.getElem_set, Fin.ext_iff]

/-- A report applies to the slot it names, when that slot is in progress with its kind and target (R148). -/
theorem Part.report_slots (p : Part) (now : Word) (n : SlotId) (k t : Nat) (st : SlotState) (r : Result) :
    (p.report now n k t st r).slots =
      if p.slots[n].busy ∧ p.slots[n].kind.toNat = k ∧ p.slots[n].target.toNat = t then
        p.slots.set n { p.slots[n] with state := st, result := some r }
      else p.slots := by
  simp only [Part.report, Bool.and_eq_true, decide_eq_true_eq, and_assoc]
  split <;> simp [Part.finishSlot]

/-- The change count is the one field `counted` touches (R30). -/
theorem SectionRec.counted_state (a b : SectionRec) : (SectionRec.counted a b).state = b.state := rfl
theorem SectionRec.counted_count (a b : SectionRec) : (SectionRec.counted a b).count = b.count := rfl
theorem SectionRec.counted_cause (a b : SectionRec) : (SectionRec.counted a b).cause = b.cause := rfl
theorem SectionRec.counted_moved (a b : SectionRec) : (SectionRec.counted a b).moved = b.moved := rfl
theorem SectionRec.counted_slot (a b : SectionRec) : (SectionRec.counted a b).slot = b.slot := rfl
theorem SectionRec.counted_bounding (a b : SectionRec) : (SectionRec.counted a b).bounding = b.bounding := rfl

end Sys2Proof.Machine
end

