-- ==== Sys2Proof/Laws/Journal.lean ====
section
/-! SUPPORT. What taking a record does to the journal: the queue, the numbers and the dropped count, nothing else
but the start of a write. -/

namespace Sys2Proof.Machine

open Sys2Proof

/-- Taking a record keeps what the ring and the halt state hold. -/
theorem Journal.take_keeps (j : Journal) (k : Nat) (now : Word) (d : Detail) :
    (j.take k now d).active = j.active ∧ (j.take k now d).producer = j.producer ∧
      (j.take k now d).consumer = j.consumer ∧ (j.take k now d).lastSeq = j.lastSeq ∧
      (j.take k now d).halt = j.halt := by
  have hq : (j.queueRecord now d).active = j.active ∧ (j.queueRecord now d).producer = j.producer ∧
      (j.queueRecord now d).consumer = j.consumer ∧ (j.queueRecord now d).lastSeq = j.lastSeq ∧
      (j.queueRecord now d).halt = j.halt := by
    unfold Journal.queueRecord
    split
    · simp [Journal.drop]
    · split
      · simp [Journal.enter]
      · unfold Journal.enterOrDrop
        split <;> simp [Journal.enter, Journal.drop]
  unfold Journal.take Journal.startWrite
  split <;> simpa using hq

@[simp] theorem Journal.take_active (j : Journal) (k : Nat) (now : Word) (d : Detail) :
    (j.take k now d).active = j.active := (j.take_keeps k now d).1

@[simp] theorem Journal.take_producer (j : Journal) (k : Nat) (now : Word) (d : Detail) :
    (j.take k now d).producer = j.producer := (j.take_keeps k now d).2.1

@[simp] theorem Journal.take_consumer (j : Journal) (k : Nat) (now : Word) (d : Detail) :
    (j.take k now d).consumer = j.consumer := (j.take_keeps k now d).2.2.1

@[simp] theorem Journal.take_lastSeq (j : Journal) (k : Nat) (now : Word) (d : Detail) :
    (j.take k now d).lastSeq = j.lastSeq := (j.take_keeps k now d).2.2.2.1

@[simp] theorem Journal.take_halt (j : Journal) (k : Nat) (now : Word) (d : Detail) :
    (j.take k now d).halt = j.halt := (j.take_keeps k now d).2.2.2.2

/-- A record makes JRNL neither active nor inactive. -/
@[simp] theorem Part.record_active (p : Part) (now : Word) (d : Detail) :
    (p.record now d).jrnl.active = p.jrnl.active := by
  unfold Part.record
  split <;> simp

/-- The start of a write touches the word offered alone (R157). -/
theorem Journal.startWrite_keeps (j : Journal) (k : Nat) :
    j.startWrite k = j ∨ j.startWrite k = { j with writing := some .w1 } := by
  unfold Journal.startWrite
  split
  · exact .inr rfl
  · exact .inl rfl

end Sys2Proof.Machine
end

