-- ==== Sys2Proof/Laws/Operands.lean ====
section
/-! SUPPORT. Where the words of the aperture lie and what class they have, and the fields of a command word. -/

namespace Sys2Proof.Machine

open Sys2Proof

/-- The byte address of a word of the aperture. -/
theorem byteAddr_apertureWord (aps : BitVec 4) (off : Nat) (h4 : off % 4 = 0) (h : off < 0x10000) :
    byteAddr (apertureWord aps off) = apertureBase aps + off := by
  have := aps.isLt
  simp only [byteAddr, apertureWord, apertureBase, BitVec.toNat_ofNat]
  omega

/-- A word of the aperture has the class of its window (R123). -/
theorem classify_apertureWord (aps : BitVec 4) (ring : Option RingRegion) (off : Nat) (h4 : off % 4 = 0)
    (h : off < 0x10000) : classify aps ring (apertureWord aps off) = windowClass off := by
  simp only [classify, byteAddr_apertureWord aps off h4 h]
  rw [if_pos (by omega)]
  congr 1
  omega

/-- A command word is of class Request. -/
theorem classify_command (aps : BitVec 4) (ring : Option RingRegion) (n : SlotId) :
    classify aps ring (apertureWord aps (commandOffset n)) = .request (commandOffset n) := by
  have := n.isLt
  rw [classify_apertureWord _ _ _ (by simp only [commandOffset]; omega) (by simp only [commandOffset]; omega)]
  have h1 : ¬ commandOffset n < 0x1000 := by simp only [commandOffset]; omega
  have h2 : commandOffset n < 0x2000 := by simp only [commandOffset]; omega
  simp only [windowClass, if_neg h1, if_pos h2]

/-- A parameter word is of class Request. -/
theorem classify_param (aps : BitVec 4) (ring : Option RingRegion) (n : SlotId) :
    classify aps ring (apertureWord aps (paramOffset n)) = .request (paramOffset n) := by
  have := n.isLt
  rw [classify_apertureWord _ _ _ (by simp only [paramOffset]; omega) (by simp only [paramOffset]; omega)]
  have h1 : ¬ paramOffset n < 0x1000 := by simp only [paramOffset]; omega
  have h2 : paramOffset n < 0x2000 := by simp only [paramOffset]; omega
  simp only [windowClass, if_neg h1, if_pos h2]

/-- The consumer word is of class Request. -/
theorem classify_consumer (aps : BitVec 4) (ring : Option RingRegion) :
    classify aps ring (apertureWord aps consumerOffset) = .request consumerOffset := by
  rw [classify_apertureWord _ _ _ (by decide) (by decide)]
  rfl

/-- A place of the topology window is of class Topology. -/
theorem classify_topology (aps : BitVec 4) (ring : Option RingRegion) (i : Place) :
    classify aps ring (apertureWord aps (topologyOffset i)) = .topology i := by
  have := i.isLt
  rw [classify_apertureWord _ _ _ (by simp only [topologyOffset]; omega) (by simp only [topologyOffset]; omega)]
  have h1 : ¬ topologyOffset i < 0x1000 := by simp only [topologyOffset]; omega
  have h2 : ¬ topologyOffset i < 0x2000 := by simp only [topologyOffset]; omega
  have h3 : topologyOffset i < 0x4000 ∧ 0x2000 ≤ topologyOffset i := by simp only [topologyOffset]; omega
  simp only [windowClass, if_neg h1, if_neg h2, dif_pos h3]
  congr 1
  apply Fin.ext
  simp only [topologyOffset]
  omega

/-- The command word of a slot is handed to REQE as such. -/
theorem requestWordAt_command (n : SlotId) : requestWordAt (commandOffset n) = .command n := by
  revert n; decide

/-- The parameter word of a slot is handed to REQE as such. -/
theorem requestWordAt_param (n : SlotId) : requestWordAt (paramOffset n) = .param n := by
  revert n; decide

/-- The consumer word is handed to JRNL. -/
theorem requestWordAt_consumer : requestWordAt consumerOffset = .consumer := by decide

/-- The kind field of a command word. -/
@[simp] theorem cmdKind_commandWord (k t o c : Byte) : cmdKind (commandWord k t o c) = k := by
  apply BitVec.eq_of_getLsbD_eq
  intro i hi
  simp only [cmdKind, commandWord, BitVec.getLsbD_extractLsb', BitVec.getLsbD_append, hi, decide_true, Bool.true_and]
  rw [if_pos (by omega)]
  congr 1
  omega

/-- The target field of a command word. -/
@[simp] theorem cmdTarget_commandWord (k t o c : Byte) : cmdTarget (commandWord k t o c) = t := by
  apply BitVec.eq_of_getLsbD_eq
  intro i hi
  simp only [cmdTarget, commandWord, BitVec.getLsbD_extractLsb', BitVec.getLsbD_append, hi, decide_true, Bool.true_and]
  rw [if_neg (by omega)]
  rw [if_pos (by omega)]
  congr 1
  omega

/-- The token field of a command word. -/
@[simp] theorem cmdToken_commandWord (k t o c : Byte) : cmdToken (commandWord k t o c) = o := by
  apply BitVec.eq_of_getLsbD_eq
  intro i hi
  simp only [cmdToken, commandWord, BitVec.getLsbD_extractLsb', BitVec.getLsbD_append, hi, decide_true, Bool.true_and]
  rw [if_neg (by omega)]
  rw [if_neg (by omega)]
  rw [if_pos (by omega)]
  congr 1
  omega

/-- The check field of a command word. -/
@[simp] theorem cmdCheck_commandWord (k t o c : Byte) : cmdCheck (commandWord k t o c) = c := by
  apply BitVec.eq_of_getLsbD_eq
  intro i hi
  simp only [cmdCheck, commandWord, BitVec.getLsbD_extractLsb', BitVec.getLsbD_append, hi, decide_true, Bool.true_and]
  rw [if_neg (by omega)]
  rw [if_neg (by omega)]
  rw [if_neg (by omega)]
  congr 1
  omega

end Sys2Proof.Machine
end

