-- ==== Sys2Proof/Laws/Path.lean ====
section
/-! SUPPORT. What an access that PATH accepts does, by the word it names; what PATH does with one it cannot accept; what
the arbiter decides at the port. -/

namespace Sys2Proof.Machine

open Sys2Proof

/-- An access presented while PATH can accept is accepted (R124). -/
theorem State.present_open (s : State) (a : Access) (h : s.open_) : s.present a = s.accept a := by
  simp [State.present, h.2.1, h.2.2]

/-- A full-width command word is handed to REQE and passed to memory (R129). -/
theorem State.command_open (s : State) (n : SlotId) (k t o c : Byte) (h : s.open_) :
    s.command n k t o c =
      (s.withPart (s.part.request n (commandWord k t o c))).pass
        (writeFull (s.commandAddr n) (commandWord k t o c)) := by
  rw [State.command, State.present_open _ _ h]
  simp [State.accept, State.acceptWrite, State.classOf, writeFull, State.commandAddr, classify_command,
    Part.requestWrite, requestWordAt_command, Part.commandWrite]

/-- A write of the parameter word is merged by REQE and passed to memory (R129, R139). -/
theorem State.param_open (s : State) (n : SlotId) (l : Lanes) (w : Word) (h : s.open_) :
    s.present (writeSome (apertureWord s.path.aps (paramOffset n)) l w) =
      (s.withPart (s.part.paramWrite n l w)).pass (writeSome (apertureWord s.path.aps (paramOffset n)) l w) := by
  rw [State.present_open _ _ h]
  simp [State.accept, State.acceptWrite, State.classOf, writeSome, classify_param, Part.requestWrite,
    requestWordAt_param]

/-- A write of the consumer word is handed to JRNL and passed to memory (R129, R159). -/
theorem State.consumer_open (s : State) (v : Word) (h : s.open_) :
    s.present (writeFull (apertureWord s.path.aps consumerOffset) v) =
      (s.withPart (s.part.consumerWrite fullLanes v
        (violationAddr (writeFull (apertureWord s.path.aps consumerOffset) v)))).pass
        (writeFull (apertureWord s.path.aps consumerOffset) v) := by
  rw [State.present_open _ _ h]
  simp [State.accept, State.acceptWrite, State.classOf, writeFull, classify_consumer, Part.requestWrite,
    requestWordAt_consumer]

/-- A write of the topology window in UNCONFIGURED is taken by TOPO and passed to memory (R130). -/
theorem State.topology_open (s : State) (i : Place) (l : Lanes) (w : Word) (h : s.open_)
    (hm : s.part.topo.mode = .unconfigured) :
    s.present (writeSome (apertureWord s.path.aps (topologyOffset i)) l w) =
      (s.withPart (s.part.topologyWrite s.path.aps i l w)).pass
        (writeSome (apertureWord s.path.aps (topologyOffset i)) l w) := by
  rw [State.present_open _ _ h]
  simp [State.accept, State.acceptWrite, State.classOf, writeSome, classify_topology, hm]

/-- A write of the topology window after a commit is kept (R128, R130). -/
theorem State.topology_kept (s : State) (i : Place) (l : Lanes) (w : Word) (h : s.open_)
    (hm : s.part.topo.mode ≠ .unconfigured) :
    s.present (writeSome (apertureWord s.path.aps (topologyOffset i)) l w) =
      s.keep (writeSome (apertureWord s.path.aps (topologyOffset i)) l w) .topologyWrite := by
  rw [State.present_open _ _ h]
  simp [State.accept, State.acceptWrite, State.classOf, writeSome, classify_topology, hm]

/-! ### An access that PATH cannot accept -/

/-- No access is accepted under CPURST (R135). -/
theorem State.present_cpurst (s : State) (a : Access) (h : s.path.cpurst = true) : s.present a = s := by
  simp [State.present, h]

/-- With an access in flight, the next one waits on the bus (R124). -/
theorem State.present_waits (s : State) (a : Access) (hc : s.path.cpurst = false)
    (hf : s.path.flight.isSome = true) (hw : s.path.waiting = none) :
    s.present a = { s with path := { s.path with waiting := some a } } := by
  simp [State.present, hc, hf, hw]

/-- The bus carries one waiting access (R124; log entry 19). -/
theorem State.present_lost (s : State) (a : Access) (hf : s.path.flight.isSome = true)
    (hw : s.path.waiting.isSome = true) : s.present a = s := by
  unfold State.present
  rw [if_pos hf, if_pos hw, ite_self]

/-! ### The port -/

/-- The port is free when neither a journal word nor an access holds it (R132). -/
theorem Path.portFree_iff (x : Path) :
    x.portFree = true ↔ x.jword = none ∧ x.flight.any Flight.holds = false := by
  simp [Path.portFree]

/-- A port in use is not granted (R132). -/
theorem Path.arbitrate_busy (x : Path) (w : Option JournalWord) (c : Claimant) (h : x.portFree = false) :
    x.arbitrate w c = x := by
  simp [Path.arbitrate, h]

/-- A free port is granted by the table (R133). -/
theorem Path.arbitrate_free (x : Path) (w : Option JournalWord) (c : Claimant) (h : x.portFree = true) :
    x.arbitrate w c = x.grant w c := by
  simp [Path.arbitrate, h]

/-- The access is taken before a word that met the port free (R134). -/
theorem Path.grantBoth_access (x : Path) (w : JournalWord) (c : Claimant) (hw : x.wordWaited = false)
    (h : x.accessWaited = true ∨ c = .access) : x.grantBoth w c = x.startProcessor := by
  simp [Path.grantBoth, hw, h]

/-- The word is taken before an access that met the port free (R134). -/
theorem Path.grantBoth_word (x : Path) (w : JournalWord) (ha : x.accessWaited = false) :
    x.grantBoth w .word = x.startJournal w := by
  simp [Path.grantBoth, ha]

/-- Both waited: the wait count decides (R133). -/
theorem Path.grantBoth_count (x : Path) (w : JournalWord) (c : Claimant) (hw : x.wordWaited = true)
    (h : x.accessWaited = true ∨ c = .access) : x.grantBoth w c = x.grantByCount w := by
  rcases h with h | h <;> simp [Path.grantBoth, hw, h]

/-- Without an arrival PORT_GRANT is the arbiter's decision alone (R133). -/
theorem State.portGrant_none (s : State) (c : Claimant) :
    s.portGrant none c = { s with path := s.path.arbitrate s.part.offered c } := rfl

end Sys2Proof.Machine
end

