-- ==== Sys2Proof/Laws/Store.lean ====
section
/-! SUPPORT. The sparse stores: reading after writing, and the canonical form every operation of the RAM and of the
shadow keeps. -/

namespace Sys2Proof.Machine

open Sys2Proof

variable {β : Type}

/-! ### Keys -/

/-- Putting at a key lists no key but it and those listed. -/
theorem mem_cellPut (l : List (Nat × β)) (k : Nat) (v : β) (c : Nat × β) (h : c ∈ cellPut l k v) :
    c = (k, v) ∨ c ∈ l := by
  induction l with
  | nil => simpa [cellPut] using h
  | cons x l ih =>
    obtain ⟨a, w⟩ := x
    simp only [cellPut] at h
    split at h
    · simpa using h
    · split at h
      · rcases List.mem_cons.1 h with h | h
        · exact .inl h
        · exact .inr (List.mem_cons_of_mem _ h)
      · rcases List.mem_cons.1 h with h | h
        · exact .inr (h ▸ List.mem_cons_self ..)
        · rcases ih h with h | h
          · exact .inl h
          · exact .inr (List.mem_cons_of_mem _ h)

/-- Dropping a key lists nothing new. -/
theorem mem_cellDrop (l : List (Nat × β)) (k : Nat) (c : Nat × β) (h : c ∈ cellDrop l k) : c ∈ l := by
  induction l with
  | nil => simp [cellDrop] at h
  | cons x l ih =>
    obtain ⟨a, w⟩ := x
    simp only [cellDrop] at h
    split at h
    · exact List.mem_cons_of_mem _ h
    · rcases List.mem_cons.1 h with h | h
      · exact h ▸ List.mem_cons_self ..
      · exact List.mem_cons_of_mem _ (ih h)

/-- Putting keeps the keys rising. -/
theorem cellPut_rising (l : List (Nat × β)) (k : Nat) (v : β) (h : CellsRising l) : CellsRising (cellPut l k v) := by
  induction l with
  | nil => simp [cellPut, CellsRising]
  | cons x l ih =>
    obtain ⟨a, w⟩ := x
    obtain ⟨h1, h2⟩ := List.pairwise_cons.1 h
    simp only [cellPut]
    split
    · rename_i hk
      refine List.pairwise_cons.2 ⟨fun y hy => ?_, h⟩
      rcases List.mem_cons.1 hy with rfl | hy
      · exact hk
      · exact Nat.lt_trans hk (h1 y hy)
    · split
      · rename_i hk
        subst hk
        exact List.pairwise_cons.2 ⟨h1, h2⟩
      · rename_i hk hk'
        refine List.pairwise_cons.2 ⟨fun y hy => ?_, ih h2⟩
        rcases mem_cellPut l k v y hy with rfl | hy
        · show a < k
          omega
        · exact h1 y hy

/-- Dropping keeps the keys rising. -/
theorem cellDrop_rising (l : List (Nat × β)) (k : Nat) (h : CellsRising l) : CellsRising (cellDrop l k) := by
  induction l with
  | nil => simp [cellDrop, CellsRising]
  | cons x l ih =>
    obtain ⟨a, w⟩ := x
    obtain ⟨h1, h2⟩ := List.pairwise_cons.1 h
    simp only [cellDrop]
    split
    · exact h2
    · exact List.pairwise_cons.2 ⟨fun y hy => h1 y (mem_cellDrop l k y hy), ih h2⟩

/-- Nothing is listed below the first key. -/
theorem cellGet_of_lt (l : List (Nat × β)) (k : Nat) (h : ∀ c ∈ l, k < c.1) : cellGet l k = none := by
  induction l with
  | nil => rfl
  | cons x l ih =>
    obtain ⟨a, w⟩ := x
    have := h (a, w) (List.mem_cons_self ..)
    simp only at this
    rw [cellGet, if_neg (by omega)]
    exact ih fun c hc => h c (List.mem_cons_of_mem _ hc)

/-- Reading after a put. -/
theorem cellGet_put (l : List (Nat × β)) (k j : Nat) (v : β) :
    cellGet (cellPut l k v) j = if k = j then some v else cellGet l j := by
  induction l with
  | nil => simp [cellPut, cellGet]
  | cons x l ih =>
    obtain ⟨a, w⟩ := x
    simp only [cellPut]
    split
    · simp only [cellGet]
    · split
      · rename_i hk
        subst hk
        by_cases hj : k = j <;> simp [cellGet, hj]
      · rename_i hk hk'
        simp only [cellGet, ih]
        by_cases haj : a = j
        · subst haj
          simp [hk']
        · simp [haj]

/-- Reading after a drop. -/
theorem cellGet_drop (l : List (Nat × β)) (k j : Nat) (h : CellsRising l) :
    cellGet (cellDrop l k) j = if k = j then none else cellGet l j := by
  induction l with
  | nil => simp [cellDrop, cellGet]
  | cons x l ih =>
    obtain ⟨a, w⟩ := x
    obtain ⟨h1, h2⟩ := List.pairwise_cons.1 h
    simp only [cellDrop]
    split
    · rename_i hk
      subst hk
      by_cases hj : a = j
      · subst hj
        simpa using cellGet_of_lt l a h1
      · simp [cellGet, hj]
    · rename_i hk
      simp only [cellGet, ih h2]
      by_cases haj : a = j
      · subst haj
        simp [Ne.symm hk]
      · simp [haj]

/-! ### The RAM -/

/-- Writing a byte keeps the canonical form. -/
theorem Memory.put_wf (m : List Host.Cell) (a : Nat) (v : Byte) (h : Memory.wf m) : Memory.wf (Memory.put m a v) := by
  refine ⟨cellPut_rising _ _ _ h.1, fun c hc => ?_⟩
  rcases mem_cellPut _ _ _ _ hc with rfl | hc
  · exact Nat.mod_lt _ (by decide)
  · exact h.2 c hc

/-- Writing lanes keeps the canonical form. -/
theorem Memory.writeLanes_wf (m : List Host.Cell) (base : Nat) (l : List Nat) (f : Nat → Byte) (h : Memory.wf m) :
    Memory.wf (Memory.writeLanes m base l f) := by
  unfold Memory.writeLanes
  induction l generalizing m with
  | nil => exact h
  | cons i l ih => exact ih _ (Memory.put_wf _ _ _ h)

/-- A processor write keeps the canonical form. -/
theorem Memory.writeAccess_wf (m : List Host.Cell) (a : Access) (h : Memory.wf m) :
    Memory.wf (Memory.writeAccess m a) := Memory.writeLanes_wf _ _ _ _ h

/-- A journal word keeps the canonical form. -/
theorem Memory.writeJournal_wf (m : List Host.Cell) (w : JournalWord) (h : Memory.wf m) :
    Memory.wf (Memory.writeJournal m w) := Memory.writeLanes_wf _ _ _ _ h

/-- A cut write keeps the canonical form. -/
theorem Memory.cutLanes_wf (m : List Host.Cell) (n base : Nat) (l : List Nat) (h : Memory.wf m) :
    Memory.wf (Memory.cutLanes m n base l) := Memory.writeLanes_wf _ _ _ _ h

/-- Reading a byte after writing one. -/
theorem Memory.byte?_put (m : List Host.Cell) (a b : Nat) (v : Byte) :
    Memory.byte? (Memory.put m a v) b = if a % 2 ^ 24 = b then some v else Memory.byte? m b :=
  cellGet_put _ _ _ _

/-- A byte no lane is written to reads as before. -/
theorem Memory.byte?_writeLanes_other (m : List Host.Cell) (base : Nat) (l : List Nat) (f : Nat → Byte) (b : Nat)
    (h : ∀ i ∈ l, (base + i) % 2 ^ 24 ≠ b) : Memory.byte? (Memory.writeLanes m base l f) b = Memory.byte? m b := by
  unfold Memory.writeLanes
  induction l generalizing m with
  | nil => rfl
  | cons i l ih =>
    rw [List.foldl_cons, ih _ fun j hj => h j (List.mem_cons_of_mem _ hj), Memory.byte?_put,
      if_neg (h i (List.mem_cons_self ..))]

/-- The RAM after reset has the canonical form. -/
theorem Memory.reset_wf : Memory.wf State.reset.mem :=
  ⟨List.Pairwise.nil, fun _ hc => absurd hc (List.not_mem_nil)⟩

/-! ### The shadow -/

/-- Setting a place keeps the canonical form. -/
theorem Shadow.set_wf (m : List (Nat × Word)) (i : Place) (v : Word) (h : Shadow.wf m) :
    Shadow.wf (Shadow.set m i v) := by
  unfold Shadow.set
  split
  · exact ⟨cellDrop_rising _ _ h.1, fun c hc => h.2 c (mem_cellDrop _ _ _ hc)⟩
  · rename_i hv
    refine ⟨cellPut_rising _ _ _ h.1, fun c hc => ?_⟩
    rcases mem_cellPut _ _ _ _ hc with rfl | hc
    · exact ⟨i.isLt, hv⟩
    · exact h.2 c hc

/-- A merge keeps the canonical form. -/
theorem Shadow.merge_wf (m : List (Nat × Word)) (i : Place) (l : Lanes) (v : Word) (h : Shadow.wf m) :
    Shadow.wf (Shadow.merge m i l v) := Shadow.set_wf _ _ _ h

/-- Reading a place after setting one. -/
theorem Shadow.word_set (m : List (Nat × Word)) (i : Place) (v : Word) (j : Nat) (h : Shadow.wf m) :
    Shadow.word (Shadow.set m i v) j = if i.val = j then v else Shadow.word m j := by
  unfold Shadow.word Shadow.set
  split
  · rename_i hv
    rw [cellGet_drop _ _ _ h.1]
    split <;> simp [hv]
  · rw [cellGet_put]
    split <;> simp

end Sys2Proof.Machine
end

