-- ==== Sys2Proof/Laws/Supv.lean ====
section
/-! SUPPORT. Which tick SUPV takes next, how it takes a report, and what TGEN's ticks within a step touch. -/

namespace Sys2Proof.Machine

open Sys2Proof

/-- No tick is taken from an empty list. -/
theorem nextTick_nil (now : Word) (other : List Word) : nextTick now [] other = none := rfl

/-- The oldest tick is taken when no tick of the other kind was given before it (R166). -/
theorem nextTick_of_inTurn (p : Part) (v : Word) (rest other : List Word) (h : p.inTurn v other) :
    nextTick p.tbase.ms (v :: rest) other = some v := by
  cases other with
  | nil => rfl
  | cons u us => simp only [nextTick, givenBefore, decide_eq_true_eq, if_neg (Nat.not_lt.mpr (h u us rfl))]

/-- The oldest tick waits while a tick of the other kind was given before it (R166). -/
theorem nextTick_of_not_inTurn (p : Part) (v : Word) (rest other : List Word) (h : ¬ p.inTurn v other) :
    nextTick p.tbase.ms (v :: rest) other = none := by
  cases other with
  | nil => exact absurd (fun u us e => by cases e) h
  | cons u us =>
    have k : (p.tbase.ms - v).toNat < (p.tbase.ms - u).toNat :=
      Nat.lt_of_not_le fun k => h fun w ws e => by cases e; exact k
    simp only [nextTick, givenBefore, decide_eq_true_eq, if_pos k]

/-- SUPV takes its oldest supervision tick when that is in turn beside the slow ticks (R166). -/
theorem Part.nextSupvTick_of_inTurn (p : Part) (v : Word) (rest : List Word) (e : p.ticks.supv = v :: rest)
    (h : p.inTurn v p.ticks.slowSupv) : p.nextSupvTick = some v := by
  unfold Part.nextSupvTick; rw [e]; exact nextTick_of_inTurn p v rest _ h

/-- SUPV's oldest supervision tick waits behind a slow tick given before it (R166). -/
theorem Part.nextSupvTick_of_not_inTurn (p : Part) (v : Word) (rest : List Word) (e : p.ticks.supv = v :: rest)
    (h : ¬ p.inTurn v p.ticks.slowSupv) : p.nextSupvTick = none := by
  unfold Part.nextSupvTick; rw [e]; exact nextTick_of_not_inTurn p v rest _ h

/-- SUPV stands inside a pass exactly when a supervision tick has begun one (R70). -/
theorem Part.inPass_eq_true_iff (p : Part) : p.inPass = true ↔ p.ticks.scanNext ≠ 0 ∧ p.ticks.supv ≠ [] := by
  simp [Part.inPass]

/-- SUPV takes no slow tick inside a pass over the heads (R70, R166). -/
theorem Part.nextSlowTick_of_inPass (p : Part) (h : p.inPass = true) : p.nextSlowTick = none := by
  simp [Part.nextSlowTick, h]

/-- SUPV takes its oldest slow tick when that is in turn beside the supervision ticks (R166). -/
theorem Part.nextSlowTick_of_slowInTurn (p : Part) (v : Word) (rest : List Word)
    (e : p.ticks.slowSupv = v :: rest) (h : p.slowInTurn v) : p.nextSlowTick = some v := by
  have k : ¬ p.inPass = true := fun k => by
    have ⟨k1, k2⟩ := p.inPass_eq_true_iff.mp k
    exact h.2.elim k1 k2
  unfold Part.nextSlowTick; rw [if_neg k, e]; exact nextTick_of_inTurn p v rest _ h.1

/-- SUPV's oldest slow tick waits behind a supervision tick given before it, and while SUPV is inside a pass (R166). -/
theorem Part.nextSlowTick_of_not_slowInTurn (p : Part) (v : Word) (rest : List Word)
    (e : p.ticks.slowSupv = v :: rest) (h : ¬ p.slowInTurn v) : p.nextSlowTick = none := by
  by_cases k : p.inPass = true
  · exact p.nextSlowTick_of_inPass k
  · unfold Part.nextSlowTick
    rw [if_neg k, e]
    refine nextTick_of_not_inTurn p v rest _ fun t => h ⟨t, ?_⟩
    rw [Part.inPass_eq_true_iff] at k
    exact Decidable.byContradiction fun n => k (not_or.mp n)

/-- SUPV discards a report that was sent before its head failed (R74). -/
theorem State.takeSupv_of_stale (s : State) (m : ToSupv) (h : HeadId) (c : ScoreChange) (t : Trigger)
    (after : Part → Part) (up : s.up) (e : m ∈ s.part.sent.stale) :
    s.takeSupv m h c t after = .next (s.withPart (after (s.part.tookStale m))) := by
  simp [State.takeSupv, State.powered, up, e]

/-- SUPV takes a report as a score event in RUNNING (R74, R75). -/
theorem State.takeSupv_of_running (s : State) (m : ToSupv) (h : HeadId) (c : ScoreChange) (t : Trigger)
    (after : Part → Part) (up : s.up) (k : m ∉ s.part.sent.stale) (e : m ∈ s.part.sent.supv)
    (x : s.part.hdec[h].phase ≠ .test) (r : s.part.running = true) :
    s.takeSupv m h c t after =
      .next (s.withPart ((after (s.part.tookSupv m)).scoreEvent s.part.tbase.ms h c t none)) := by
  unfold State.takeSupv
  rw [if_neg k, if_pos ⟨e, x⟩, if_pos r]
  simp [State.powered, up]

/-- A tick within a step changes the follow window, the tick in hand and the sample requests, and nothing else (R96,
R98). -/
theorem Part.tickWithinStep_keeps (p : Part) :
    ∃ l : List SampleAsk, p.tickWithinStep =
      { p with
        gen :=
          { p.gen with followOpen := p.gen.followOpen && !p.gen.closesWindow p.tbase.ms, tickDue := false }
        sent := { p.sent with asks := p.sent.asks ++ l } } := by
  unfold Part.tickWithinStep
  cases p.gen.target with
  | none => exact ⟨[], by simp [Part.setGen, Generator.tickTaken]⟩
  | some h =>
    by_cases k : p.gen.midStep p.tbase.ms p.topo.params.stepTime = true
    · exact ⟨[{ h := h, serial := p.gen.serial }], by
        simp [k, Part.askSample, Part.sendAsk, Part.setSent, Part.setGen, Generator.tickTaken]⟩
    · exact ⟨[], by simp [k, Part.setGen, Generator.tickTaken]⟩

end Sys2Proof.Machine
end

