-- ==== Sys2Proof/WellFormed.lean ====
section
/-! DEFINITION. Which terms of Instr are commands: the operand ranges the rows' rules give. Ranges that a
type already holds (a head number, a slot number, a sample) need no check. -/

namespace Sys2Proof

/-- A write or read enables one to four lanes (R123). -/
def lanesEnabled (l : Lanes) : Bool := l != 0#4

/-- A full-width write of action 1 to the commit word, which is the row COMMIT and not TOPOLOGY_WRITE (R112). -/
def isCommitWrite (place : Place) (lanes : Lanes) (data : Word) : Bool :=
  place.val == 2047 && lanes == fullLanes && data.extractLsb' 0 16 == 1#16

/-- The check of a command before it is sent. -/
def Instr.wellFormed : Instr → Bool
  | .edge _ _ _ period => decide (period < Config.periodsPerMs)
  | .shadowCorruption _ bits => bits != 0#32
  | .partialCommand _ lanes _ => lanesEnabled lanes && lanes != fullLanes
  | .parameterWordWrite _ lanes _ => lanesEnabled lanes
  | .topologyWrite place lanes data => lanesEnabled lanes && !isCommitWrite place lanes data
  | .keptWrite _ lanes _ => lanesEnabled lanes
  | .portGrant arrival => arrival.access.all fun a => lanesEnabled a.lanes
  | .commandNotAKind _ kind _ _ _ => decide (kind = 0#8) || decide (5 < kind.toNat)
  | .msTick => true
  | .dwellLimitReached _ => true
  | .supervisionTick _ _ _ => true
  | .recoveryComplete _ _ _ => true
  | .recoveryReport _ => true
  | .settleTick => true
  | .settleWaitEnd _ => true
  | .slowTick _ => true
  | .restartTimeout _ => true
  | .passageEvent _ _ => true
  | .suspectEndEvent _ => true
  | .movementNotice _ => true
  | .unsettledChangeNotice _ => true
  | .testAbortNotice _ => true
  | .separationFaultReport _ => true
  | .glitchReport _ => true
  | .cleanPassageReport _ => true
  | .testPassedReport _ => true
  | .testFailedReport _ => true
  | .patternStart => true
  | .followWindowClose => true
  | .stepDeadline => true
  | .midStepSample => true
  | .sampleRequest _ _ => true
  | .midSampleAnswer => true
  | .edgeCopy => true
  | .releaseTimeEnd => true
  | .sweepReset _ _ _ _ => true
  | .preparedReset _ _ _ _ => true
  | .headRestart _ _ _ _ => true
  | .headTest _ _ _ _ => true
  | .cancel _ _ _ _ => true
  | .consumerWrite _ => true
  | .commit _ => true
  | .memoryAccessComplete => true
  | .recordWriteStart => true
  | .journalWordComplete => true
  | .haltPendingEntry => true
  | .porstAssert => true
  | .porstRelease _ _ _ => true
  | .cpurstAssert => true
  | .cpurstRelease => true

end Sys2Proof
end

