-- ==== Sys2Proof/Tests/Slice0.lean ====
section
/-! SUPPORT. Small tests: the ill-formed commands the check refuses, a state that meets the hypotheses of every
statement (one witness for each clause, at a boundary where the clause has one), and single steps from the worked
sequences of the manual. -/

set_option Elab.async false

namespace Sys2Proof.Tests

open Sys2Proof Sys2Proof.Machine

/-! ### A small station: H0 (outside | S0), H1 (S0 | S1), H2 (S1 | outside) -/

def entries : Vector HeadEntry 32 :=
  (((Vector.replicate 32 ({ sideA := none, sideB := none } : HeadEntry)).set 0 { sideA := none, sideB := some 0 }).set 1
    { sideA := some 0, sideB := some 1 }).set 2 { sideA := some 1, sideB := none }

def params : Params :=
  { Params.uncommitted with
    minSep := 50, minPulse := 200, dwellLimit := 1, restartLimit := 2, stepTime := 10, openMax := 100,
    dampedLow := 200, dampedHigh := 400, normalLow := 600, normalHigh := 800, shortMin := 950,
    ringBase := 0x008000#24, ringCode := 4, passageRecords := true, heads := entries,
    sections := (Vector.replicate 24 ({ inUse := false, prepared := false, settle := 0 } : SectionEntry)).set 0
      { inUse := true, prepared := true, settle := 3 } |>.set 1 { inUse := true, prepared := false, settle := 0 } }

/-- A head in a phase, its two levels given. -/
def hd (ph : Phase) (a b : Bool) : HeadDecoder :=
  { HeadDecoder.powerOn a b with phase := ph, dwellStart := if ph.isDwell then some 0#32 else none }

/-- A section in a state. -/
def sr (st : SectionState) (count : Nat) (bounding : List (HeadId × Side)) : SectionRec :=
  { SectionRec.powerOn with state := st, count := count, bounding := bounding }

/-- A healthy head. -/
def fit : HeadHealth := { HeadHealth.powerOn with health := .healthy }

def bound0 : List (HeadId × Side) := [(0, .sideB), (1, .sideA)]
def bound1 : List (HeadId × Side) := [(1, .sideB), (2, .sideA)]

/-- The station in RUNNING: three heads in IDLE, two CLEAR sections, an empty journal. -/
def rail : State :=
  { State.reset with
    part :=
      { State.reset.part with
        hdec := ((State.reset.part.hdec.set 0 (hd .idle false false)).set 1 (hd .idle false false)).set 2
          (hd .idle false false)
        scnt := (State.reset.part.scnt.set 0 (sr .clear 0 bound0)).set 1 (sr .clear 0 bound1)
        supv := ((State.reset.part.supv.set 0 fit).set 1 fit).set 2 fit
        jrnl := { Journal.powerOn with active := true }
        topo :=
          { Topology.powerOn with
            mode := .running, result := .accepted, params := params
            ring := some { base := 0x8000, size := 256 } } } }

def head (s : State) (h : HeadId) (x : HeadDecoder) : State := s.withPart (s.part.setHdec h x)
def sec (s : State) (i : SectionId) (x : SectionRec) : State := s.withPart (s.part.setScnt i x)
def health (s : State) (h : HeadId) (v : HeadHealth) : State := s.withPart (s.part.setSupv h v)
def slot (s : State) (n : SlotId) (x : Slot) : State := s.withPart (s.part.setSlot n x)
def gen (s : State) (g : Generator) : State := s.withPart (s.part.setGen g)
def sent (s : State) (m : InFlight) : State := s.withPart (s.part.setSent m)
def ticks (s : State) (t : Ticks) : State := s.withPart (s.part.setTicks t)
def jrnl (s : State) (j : Journal) : State := s.withPart (s.part.setJrnl j)
def clock (s : State) (us ms : Word) (period : Nat) : State :=
  s.withPart (s.part.setTbase { us := us, ms := ms, period := period })
def mode (s : State) (m : Mode) : State := s.withPart (s.part.setTopo { s.part.topo with mode := m })

/-- A slot in progress. -/
def busy (st : SlotState) (kind target : Byte) : Slot :=
  { Slot.powerOn with state := st, kind := kind, target := target, token := 0x11#8 }

/-- A shadow that does not match its check value, and the slow tick of the re-check. -/
def mismatch (s : State) : State :=
  ticks (s.withPart (s.part.setTopo { s.part.topo with shadow := [(2046, 1#32)] }))
    { Ticks.none with slowTopo := [512#32] }

/-- The re-check finds two slots in progress, a full queue but for one place, and four records dropped. -/
def halting : State :=
  mismatch (slot (slot (jrnl rail
    { Journal.powerOn with
      active := true, queue := List.replicate 14 { detail := .gap 1, seq := 0#16, time := 0#32 }, dropped := 4, writing := some .w1 })
    5 (busy .waiting 3#8 1#8)) 2 (busy .waiting 1#8 0#8))

/-- A generator that tests H1 from slot 3, a to b, in a step. -/
def testing (k : Nat) : Generator :=
  { Generator.powerOn 1 with
    state := .running, target := some 1, slot := some 3, direction := some .aToB, step := k, tickDue := true }

/-- H1 under test in a step. -/
def bench (g : Generator) : State :=
  slot (gen (head rail 1 { hd .test false false with shadowPhase := some .idle }) g) 3 (busy .active 4#8 1#8)

/-- H1 under a release allowance. -/
def releasing (g : Generator) : State := gen (head rail 1 (hd .unsettled true false)) g

def releaseGen : Generator :=
  { Generator.powerOn 1 with
    state := .releasing, target := some 1, direction := some .aToB, tickDue := true, releaseLeft := some 1
    releaseA := true }

/-- A record in the queue. -/
def entry (d : Detail) (seq : BitVec 16) : JRecord := { detail := d, seq := seq, time := 0#32 }

/-- A processor write of a word, on its way. -/
def flight (holds : Bool) : Flight :=
  { access := { addr := 0x100#22, write := true, lanes := 0x5#4, data := 0x11223344#32 }, holds := holds, dropped := false }

def path (s : State) (x : Path) : State := { s with path := x }

/-! ### A committed shadow -/

/-- The global words, H0 (outside | S0), 31 unused heads and S0, as software writes them (R109 to R111). -/
def shadow : List (Nat × Word) :=
  [(0, 0x00C80032#32), (1, 0x000A0201#32), (2, 0x00C80064#32), (3, 0x02580190#32), (4, 0x03B60320#32),
    (5, 0x04008000#32), (6, 0x00000001#32), (64, 0x000000FF#32)]
    ++ (List.range 31).map (fun i => (65 + i, 0x0000FFFF#32)) ++ [(128, 0x00000301#32)]

/-- The shadow with nine heads that name S0 (R113, check 7). -/
def crowded : List (Nat × Word) :=
  shadow.take 7 ++ (List.range 9).map (fun i => (64 + i, 0x000000FF#32))
    ++ (List.range 23).map (fun i => (73 + i, 0x0000FFFF#32)) ++ [(128, 0x00000301#32)]

def uncommitted (m : List (Nat × Word)) : State :=
  State.reset.withPart (State.reset.part.setTopo { Topology.powerOn with shadow := m })

/-- The check value of a shadow. -/
def checkOf (m : List (Nat × Word)) : BitVec 16 := Shadow.sum m

/-- The shadow after the commit word is merged. -/
def merged (m : List (Nat × Word)) : List (Nat × Word) :=
  Shadow.merge m 2047 fullLanes (commitWord (checkOf m))

/-! ### Ill-formed commands -/

theorem test_edge_outside_ms : (Instr.edge 0 .sysA .rising 8000).wellFormed = false := by decide
theorem test_corruption_of_nothing : (Instr.shadowCorruption 0 0#32).wellFormed = false := by decide
theorem test_partial_of_no_lane : (Instr.partialCommand 0 0x0#4 1#32).wellFormed = false := by decide
theorem test_partial_of_all_lanes : (Instr.partialCommand 0 0xF#4 1#32).wellFormed = false := by decide
theorem test_parameter_of_no_lane : (Instr.parameterWordWrite 0 0x0#4 1#32).wellFormed = false := by decide
theorem test_topology_of_no_lane : (Instr.topologyWrite 0 0x0#4 1#32).wellFormed = false := by decide
theorem test_topology_is_commit : (Instr.topologyWrite 2047 0xF#4 0x12340001#32).wellFormed = false := by decide
theorem test_kept_of_no_lane : (Instr.keptWrite 0x3C0000#22 0x0#4 1#32).wellFormed = false := by decide
theorem test_arrival_of_no_lane :
    (Instr.portGrant ⟨some { addr := 0#22, write := false, lanes := 0x0#4, data := 0#32 }, .word⟩).wellFormed = false := by
  decide
theorem test_kind_zero_and_six :
    (Instr.commandNotAKind 0 0#8 0#8 0#8 0#8).wellFormed = true ∧ (Instr.commandNotAKind 0 6#8 0#8 0#8 0#8).wellFormed = true := by
  decide
theorem test_kind_in_use : (Instr.commandNotAKind 0 5#8 0#8 1#8 0xFE#8).wellFormed = false := by decide

/-! ### The hypotheses of the statements can be met -/

/-- No tick is behind one of an empty list. -/
theorem inTurn_nil {p : Part} {v : Word} {others : List Word} (e : others = []) : p.inTurn v others := by
  intro u us k; rw [e] at k; cases k

/-- A tick is in turn beside an oldest one that was not given before it. -/
theorem inTurn_cons {p : Part} {v u : Word} {us others : List Word} (e : others = u :: us)
    (k : (p.tbase.ms - u).toNat ≤ (p.tbase.ms - v).toNat) : p.inTurn v others := by
  intro w ws x; rw [e] at x; injection x with x1 x2; rw [← x1]; exact k

/-- A tick is behind an oldest one that was given before it. -/
theorem not_inTurn {p : Part} {v u : Word} {us others : List Word} (e : others = u :: us)
    (k : ¬ (p.tbase.ms - u).toNat ≤ (p.tbase.ms - v).toNat) : ¬ p.inTurn v others := fun x => k (x u us e)

/-- A slow tick is in turn when SUPV has no supervision tick. -/
theorem slowInTurn_alone {p : Part} {v : Word} (e : p.ticks.supv = []) : p.slowInTurn v := ⟨inTurn_nil e, Or.inr e⟩

/-- A head whose dwell has not started has no dwell limit to reach. -/
theorem not_dwells {p : Part} {h : HeadId} (e : p.hdec[h].dwellStart = none) : ¬ p.dwells h := by
  rintro ⟨d, k, _⟩; rw [e] at k; cases k

theorem witness_StepRunsFrontCommand :
    ∃ (c : Instr) (rest : List Instr) (s : State), s.pending = c :: rest :=
  ⟨.msTick, [.cpurstAssert], { rail with pending := [.msTick, .cpurstAssert] }, by decide +kernel⟩

theorem witness_TimePasses :
    (∃ (s : State), s.up) ∧
    (∃ (s : State), s.up ∧ s.part.gen.tickDue = false ∧ (∀ h : HeadId, ¬ s.part.dwells h)) ∧
    (∃ (s : State) (h : HeadId) (u : State), s.up ∧ s.part.dwells h ∧ (∀ g : HeadId, g < h → ¬ s.part.dwells g)
      ∧ exec (.dwellLimitReached h) s = .next u) ∧
    (∃ (s : State), s.up ∧ s.pending = [] ∧ s.part.tbase.period + 1 < 8000) ∧
    (∃ (s : State), s.up ∧ s.pending = [] ∧ 8000 ≤ s.part.tbase.period + 1) ∧
    (∃ (s : State) (u : State), s.up ∧ u.path.porst = true ∧ u.pending = []) :=
  ⟨⟨rail, by decide +kernel⟩,
    ⟨rail, by decide +kernel, by decide +kernel, (by intro g; exact not_dwells (by revert g; decide +kernel))⟩,
    ⟨clock (head rail 1 (hd .arrA true false)) 1000000#32 1000#32 0, 1, _, by decide +kernel, ⟨0#32,
      by decide +kernel, by decide +kernel, by decide +kernel⟩,
      (by intro g k; exact not_dwells (by revert k; revert g; decide +kernel)), rfl⟩,
    ⟨clock rail 999#32 0#32 7998, by decide +kernel⟩,
    ⟨clock rail 999#32 0#32 7999, by decide +kernel⟩,
    ⟨rail, path rail { Path.powerOn 0#4 false with porst := true }, by decide +kernel⟩⟩

theorem witness_EdgeUpdatesLevelTimeAndAge :
    (∃ (h : HeadId) (y : System) (d : EdgeDir) (period : Nat) (s : State), s.up ∧ (s.part.hdec[h].sensor
      y).damped ≠ d.damped ∧ s.part.tbase.period ≤ period ∧ period < 8000) ∧
    (∃ (h : HeadId) (y : System) (d : EdgeDir) (s : State), s.up ∧ (s.part.hdec[h].sensor y).damped = d.damped) :=
  ⟨⟨1, .sysA, .rising, 7999, rail, by decide +kernel⟩,
    ⟨1, .sysA, .falling, rail, by decide +kernel⟩⟩

theorem witness_EdgeMovesTraverse :
    ∃ (ph : Phase) (nx : Phase) (y : System) (d : EdgeDir) (h : HeadId) (s : State), (ph, y, d, nx) ∈ [(.arrA,
      .sysB, .rising, .ovrA), (.ovrA, .sysA, .falling, .depA), (.ovrA, .sysB, .falling, .arrA), (.depA, .sysA,
      .rising, .ovrA), (.arrB, .sysA, .rising, .ovrB), (.ovrB, .sysA, .falling, .arrB), (.ovrB, .sysB, .falling,
      .depB), (.depB, .sysB, .rising, .ovrB)] ∧ s.up ∧ s.part.decoding h = true ∧ s.part.hdec[h].phase = ph ∧
      (s.part.hdec[h].sensor y).damped ≠ d.damped ∧ s.part.tbase.period < 8000 :=
  ⟨.arrA, .ovrA, .sysB, .rising, 1, head rail 1 (hd .arrA true false), by decide +kernel⟩

theorem witness_EdgeEndsTraverse :
    (∃ (ph : Phase) (y : System) (h : HeadId) (s : State) (fault : Bool) (marked : Bool) (dir : Direction) (out
      : PassageOutcome), (ph, y) ∈ [(.arrA, .sysA), (.depA, .sysB), (.arrB, .sysB), (.depB, .sysA)] ∧ s.counting
      ∧ s.part.decoding h = true ∧ s.part.hdec[h].phase = ph ∧ (s.part.hdec[h].sensor y).damped = true ∧
      s.part.tbase.period < 8000 ∧ fault = decide ((s.part.hdec[h].sensor y.other).lessThan s.part.tbase.us
      s.part.topo.params.minSep) ∧ marked = (s.part.hdec[h].suspect || fault) ∧ dir = (if ph = .arrA ∨ ph =
      .depA then .aToB else .bToA) ∧ out = (if marked = true then .suspect else if ph = .depA ∨ ph = .depB then
      .counted else if (s.part.hdec[h].sensor y).lessThan s.part.tbase.us s.part.topo.params.minPulse then
      .glitch else .retreat)) ∧
    (∃ (ph : Phase) (y : System) (h : HeadId) (s : State) (fault : Bool) (marked : Bool) (dir : Direction) (out
      : PassageOutcome), (ph, y) ∈ [(.arrA, .sysA), (.depA, .sysB), (.arrB, .sysB), (.depB, .sysA)] ∧ s.counting
      ∧ s.part.decoding h = true ∧ s.part.hdec[h].phase = ph ∧ (s.part.hdec[h].sensor y).damped = true ∧
      s.part.tbase.period < 8000 ∧ fault = decide ((s.part.hdec[h].sensor y.other).lessThan s.part.tbase.us
      s.part.topo.params.minSep) ∧ marked = (s.part.hdec[h].suspect || fault) ∧ dir = (if ph = .arrA ∨ ph =
      .depA then .aToB else .bToA) ∧ out = (if marked = true then .suspect else if ph = .depA ∨ ph = .depB then
      .counted else if (s.part.hdec[h].sensor y).lessThan s.part.tbase.us s.part.topo.params.minPulse then
      .glitch else .retreat)) ∧
    (∃ (ph : Phase) (y : System) (h : HeadId) (s : State) (fault : Bool) (marked : Bool) (dir : Direction) (out
      : PassageOutcome), (ph, y) ∈ [(.arrA, .sysA), (.depA, .sysB), (.arrB, .sysB), (.depB, .sysA)] ∧ s.counting
      ∧ s.part.decoding h = true ∧ s.part.hdec[h].phase = ph ∧ (s.part.hdec[h].sensor y).damped = true ∧
      s.part.tbase.period < 8000 ∧ fault = decide ((s.part.hdec[h].sensor y.other).lessThan s.part.tbase.us
      s.part.topo.params.minSep) ∧ marked = (s.part.hdec[h].suspect || fault) ∧ dir = (if ph = .arrA ∨ ph =
      .depA then .aToB else .bToA) ∧ out = (if marked = true then .suspect else if ph = .depA ∨ ph = .depB then
      .counted else if (s.part.hdec[h].sensor y).lessThan s.part.tbase.us s.part.topo.params.minPulse then
      .glitch else .retreat)) ∧
    (∃ (ph : Phase) (y : System) (h : HeadId) (s : State) (fault : Bool) (marked : Bool) (dir : Direction) (out
      : PassageOutcome), (ph, y) ∈ [(.arrA, .sysA), (.depA, .sysB), (.arrB, .sysB), (.depB, .sysA)] ∧ s.counting
      ∧ s.part.decoding h = true ∧ s.part.hdec[h].phase = ph ∧ (s.part.hdec[h].sensor y).damped = true ∧
      s.part.tbase.period < 8000 ∧ fault = decide ((s.part.hdec[h].sensor y.other).lessThan s.part.tbase.us
      s.part.topo.params.minSep) ∧ marked = (s.part.hdec[h].suspect || fault) ∧ dir = (if ph = .arrA ∨ ph =
      .depA then .aToB else .bToA) ∧ out = (if marked = true then .suspect else if ph = .depA ∨ ph = .depB then
      .counted else if (s.part.hdec[h].sensor y).lessThan s.part.tbase.us s.part.topo.params.minPulse then
      .glitch else .retreat)) :=
  ⟨⟨.depA, .sysB, 1, head rail 1 (hd .depA false true), false, false, .aToB, .counted, by decide +kernel⟩,
    ⟨.arrA, .sysA, 1, head rail 1
      { hd .arrA true false with sensorA := { damped := true, edgeTime := 0xFFFFFF39#32, edgeAge := 1 } },
      false, false, .aToB, .glitch, by decide +kernel⟩,
    ⟨.arrA, .sysA, 1, head rail 1
      { hd .arrA true false with sensorA := { damped := true, edgeTime := 0xFFFFFF38#32, edgeAge := 1 } },
      false, false, .aToB, .retreat, by decide +kernel⟩,
    ⟨.depB, .sysA, 1, head rail 1
      { hd .depB true false with sensorB := { damped := false, edgeTime := 0xFFFFFFCF#32, edgeAge := 1 } },
      true, true, .bToA, .suspect, by decide +kernel⟩⟩

theorem witness_EdgeInIdleUnsettledOrOff :
    (∃ (h : HeadId) (y : System) (d : EdgeDir) (s : State) (x : HeadDecoder), s.up ∧ (s.part.hdec[h].sensor
      y).damped ≠ d.damped ∧ s.part.tbase.period < 8000 ∧ x = s.part.hdec[h].setSensor y
      { damped := d.damped, edgeTime := s.part.tbase.us, edgeAge := 0 } ∧ s.part.decoding h = true ∧
      s.part.hdec[h].phase = .idle ∧ d = .rising) ∧
    (∃ (h : HeadId) (y : System) (d : EdgeDir) (s : State) (x : HeadDecoder), s.up ∧ (s.part.hdec[h].sensor
      y).damped ≠ d.damped ∧ s.part.tbase.period < 8000 ∧ x = s.part.hdec[h].setSensor y
      { damped := d.damped, edgeTime := s.part.tbase.us, edgeAge := 0 } ∧ s.part.decoding h = true ∧
      s.part.jrnl.active = true ∧ s.part.hdec[h].phase = .unsettled) ∧
    (∃ (h : HeadId) (y : System) (d : EdgeDir) (s : State) (x : HeadDecoder), s.up ∧ (s.part.hdec[h].sensor
      y).damped ≠ d.damped ∧ s.part.tbase.period < 8000 ∧ x = s.part.hdec[h].setSensor y
      { damped := d.damped, edgeTime := s.part.tbase.us, edgeAge := 0 } ∧ s.part.hdec[h].phase = .off) :=
  ⟨⟨1, .sysA, .rising, rail, (hd .idle false false).setSensor .sysA (Sensor.edge .rising 0#32),
      by decide +kernel⟩,
    ⟨1, .sysA, .falling, head rail 1 (hd .unsettled true false), (hd .unsettled true false).setSensor .sysA
      (Sensor.edge .falling 0#32), by decide +kernel⟩,
    ⟨1, .sysB, .rising, head rail 1 (hd .off false false), (hd .off false false).setSensor .sysB (Sensor.edge
      .rising 0#32), by decide +kernel⟩⟩

theorem witness_EdgeInTestIsShadowDecoded :
    (∃ (h : HeadId) (y : System) (d : EdgeDir) (s : State) (ph : Phase), s.up ∧ (s.part.hdec[h].sensor y).damped
      ≠ d.damped ∧ s.part.tbase.period < 8000 ∧ s.part.hdec[h].phase = .test ∧ s.part.hdec[h].shadowPhase = some
      ph) ∧
    (∃ (h : HeadId) (y : System) (d : EdgeDir) (s : State) (ph : Phase), s.up ∧ (s.part.hdec[h].sensor y).damped
      ≠ d.damped ∧ s.part.tbase.period < 8000 ∧ s.part.hdec[h].phase = .test ∧ s.part.hdec[h].shadowPhase = some
      ph) :=
  ⟨⟨1, .sysA, .rising, bench (testing 1), .idle, by decide +kernel⟩,
    ⟨1, .sysB, .falling, head (bench (testing 4)) 1 { hd .test false true with shadowPhase := some .depA },
      .depA, by decide +kernel⟩⟩

theorem witness_DwellLimitSetsStanding :
    (∃ (h : HeadId) (s : State) (d : Word), s.counting ∧ s.part.hdec[h].dwellStart = some d ∧
      s.part.hdec[h].standing = false ∧ s.part.topo.params.dwellLimit * 1000 ≤ (s.part.tbase.ms - d).toNat) ∧
    (∃ (h : HeadId) (s : State), s.counting ∧ (s.part.hdec[h].dwellStart = none ∨ s.part.hdec[h].standing = true
      ∨ ∃ d : Word, s.part.hdec[h].dwellStart = some d ∧ (s.part.tbase.ms - d).toNat <
      s.part.topo.params.dwellLimit * 1000)) ∧
    (∃ (h : HeadId) (s : State), s.counting ∧ (s.part.hdec[h].dwellStart = none ∨ s.part.hdec[h].standing = true
      ∨ ∃ d : Word, s.part.hdec[h].dwellStart = some d ∧ (s.part.tbase.ms - d).toNat <
      s.part.topo.params.dwellLimit * 1000)) :=
  ⟨⟨1, clock (head rail 1 (hd .arrA true false)) 1000000#32 1000#32 0, 0#32, by decide +kernel⟩,
    ⟨1, clock (head rail 1 (hd .arrA true false)) 999000#32 999#32 0, by decide +kernel, Or.inr (Or.inr ⟨0#32,
      by decide +kernel, by decide +kernel⟩)⟩,
    ⟨1, rail, by decide +kernel, Or.inl (by decide +kernel)⟩⟩

theorem witness_PassageCrossesBothSections :
    (∃ (h : HeadId) (d : Direction) (s : State) (na : SectionId → SectionRec) (nb : SectionId → SectionRec),
      s.counting ∧ .passage h d ∈ s.part.sent.scnt ∧ (∀ i : SectionId, (s.part.headEntry h).sideA = some i →
      (s.part.headEntry h).sideB ≠ some i) ∧ na = (fun i => if d = .bToA then s.part.scnt[i].enter else
      s.part.scnt[i].leave (s.part.sectionEntry i).settle) ∧ nb = (fun i => if d = .aToB then
      s.part.scnt[i].enter else s.part.scnt[i].leave (s.part.sectionEntry i).settle)) ∧
    (∃ (h : HeadId) (d : Direction) (s : State), s.up ∧ s.part.topo.mode ≠ .running ∧ .passage h d ∈
      s.part.sent.scnt) :=
  ⟨⟨1, .aToB, sent (sec rail 0 (sr .occupied 1 bound0)) { InFlight.none with scnt := [.passage 1 .aToB] }, _,
      _, by decide +kernel, by decide +kernel, by decide +kernel, rfl, rfl⟩,
    ⟨1, .bToA, sent (mode rail .halted) { InFlight.none with scnt := [.passage 1 .bToA] }, by decide +kernel⟩⟩

theorem witness_EnterAndLeaveTables :
    (∃ (x : SectionRec), x.state = .clear) ∧
    (∃ (x : SectionRec), x.state = .occupied ∧ x.count ≤ 1022) ∧
    (∃ (x : SectionRec), x.state = .occupied ∧ x.count = 1023) ∧
    (∃ (x : SectionRec), x.state = .settling ∧ x.slot = none) ∧
    (∃ (x : SectionRec), x.state = .settling ∧ x.slot ≠ none) ∧
    (∃ (x : SectionRec), x.state = .sweepWait) ∧
    (∃ (x : SectionRec), x.state = .sweeping ∧ x.count ≤ 1022) ∧
    (∃ (x : SectionRec), x.state = .sweeping ∧ x.count = 1023) ∧
    (∃ (x : SectionRec), x.state = .disturbed) ∧
    (∃ (x : SectionRec), x.state = .clear) ∧
    (∃ (x : SectionRec), x.state = .occupied ∧ 2 ≤ x.count) ∧
    (∃ (x : SectionRec), x.state = .occupied ∧ x.count = 1) ∧
    (∃ (x : SectionRec), x.state = .settling) ∧
    (∃ (x : SectionRec), x.state = .sweepWait) ∧
    (∃ (x : SectionRec), x.state = .sweeping ∧ 2 ≤ x.count) ∧
    (∃ (x : SectionRec), x.state = .sweeping ∧ x.count = 1) ∧
    (∃ (x : SectionRec), x.state = .disturbed) :=
  ⟨⟨sr .clear 0 [], by decide⟩,
    ⟨sr .occupied 1022 [], by decide⟩,
    ⟨sr .occupied 1023 [], by decide⟩,
    ⟨sr .settling 0 [], by decide⟩,
    ⟨{ sr .settling 0 [] with slot := some 2 }, by decide⟩,
    ⟨sr .sweepWait 0 [], by decide⟩,
    ⟨sr .sweeping 1022 [], by decide⟩,
    ⟨sr .sweeping 1023 [], by decide⟩,
    ⟨sr .disturbed 0 [], by decide⟩,
    ⟨sr .clear 0 [], by decide⟩,
    ⟨sr .occupied 2 [], by decide⟩,
    ⟨sr .occupied 1 [], by decide⟩,
    ⟨sr .settling 0 [], by decide⟩,
    ⟨sr .sweepWait 0 [], by decide⟩,
    ⟨sr .sweeping 2 [], by decide⟩,
    ⟨sr .sweeping 1 [], by decide⟩,
    ⟨sr .disturbed 0 [], by decide⟩⟩

theorem witness_NoticesReachAdjacentSections :
    (∃ (h : HeadId) (s : State) (c : Instr) (m : ToScnt) (cause : Cause), (c, m, cause) ∈ [(.suspectEndEvent h,
      .suspectEnd h, .countSuspect), (.unsettledChangeNotice h, .unsettledChange h, .countSuspect),
      (.testAbortNotice h, .testAbort h, .testAbort)] ∧ s.counting ∧ m ∈ s.part.sent.scnt ∧ s.part.twoSections
      h) ∧
    (∃ (h : HeadId) (s : State) (c : Instr) (m : ToScnt) (cause : Cause), (c, m, cause) ∈ [(.suspectEndEvent h,
      .suspectEnd h, .countSuspect), (.unsettledChangeNotice h, .unsettledChange h, .countSuspect),
      (.testAbortNotice h, .testAbort h, .testAbort)] ∧ s.counting ∧ m ∈ s.part.sent.scnt ∧ s.part.twoSections
      h) ∧
    (∃ (h : HeadId) (s : State) (c : Instr) (m : ToScnt) (cause : Cause), (c, m, cause) ∈ [(.suspectEndEvent h,
      .suspectEnd h, .countSuspect), (.unsettledChangeNotice h, .unsettledChange h, .countSuspect),
      (.testAbortNotice h, .testAbort h, .testAbort)] ∧ s.counting ∧ m ∈ s.part.sent.scnt ∧ s.part.twoSections
      h) ∧
    (∃ (h : HeadId) (s : State), s.up ∧ .movement h ∈ s.part.sent.scnt) ∧
    (∃ (h : HeadId) (s : State) (c : Instr) (m : ToScnt), (c, m) ∈ [(.suspectEndEvent h, .suspectEnd h),
      (.unsettledChangeNotice h, .unsettledChange h), (.testAbortNotice h, .testAbort h)] ∧ s.up ∧
      s.part.topo.mode ≠ .running ∧ m ∈ s.part.sent.scnt) ∧
    (∃ (h : HeadId) (s : State) (c : Instr) (m : ToScnt), (c, m) ∈ [(.suspectEndEvent h, .suspectEnd h),
      (.unsettledChangeNotice h, .unsettledChange h), (.testAbortNotice h, .testAbort h)] ∧ s.up ∧
      s.part.topo.mode ≠ .running ∧ m ∈ s.part.sent.scnt) ∧
    (∃ (h : HeadId) (s : State) (c : Instr) (m : ToScnt), (c, m) ∈ [(.suspectEndEvent h, .suspectEnd h),
      (.unsettledChangeNotice h, .unsettledChange h), (.testAbortNotice h, .testAbort h)] ∧ s.up ∧
      s.part.topo.mode ≠ .running ∧ m ∈ s.part.sent.scnt) :=
  ⟨⟨1, sent rail { InFlight.none with scnt := [.suspectEnd 1] }, .suspectEndEvent 1, .suspectEnd 1,
      .countSuspect, by decide +kernel⟩,
    ⟨1, sent (slot (sec rail 0 { sr .sweepWait 0 bound0 with slot := some 2 }) 2 (busy .waiting 1#8 0#8))
      { InFlight.none with scnt := [.unsettledChange 1] }, .unsettledChangeNotice 1, .unsettledChange 1,
      .countSuspect, by decide +kernel⟩,
    ⟨0, sent rail { InFlight.none with scnt := [.testAbort 0] }, .testAbortNotice 0, .testAbort 0, .testAbort,
      by decide +kernel⟩,
    ⟨1, sent (sec rail 0 { sr .disturbed 0 bound0 with cause := some .powerUp })
      { InFlight.none with scnt := [.movement 1] }, by decide +kernel⟩,
    ⟨1, sent (mode rail .halted) { InFlight.none with scnt := [.suspectEnd 1] }, .suspectEndEvent 1, .suspectEnd
      1, by decide +kernel⟩,
    ⟨1, sent (mode rail .halted) { InFlight.none with scnt := [.unsettledChange 1] }, .unsettledChangeNotice 1,
      .unsettledChange 1, by decide +kernel⟩,
    ⟨1, sent (mode rail .halted) { InFlight.none with scnt := [.testAbort 1] }, .testAbortNotice 1, .testAbort
      1, by decide +kernel⟩⟩

theorem witness_SettleTickExaminesSettlingSections :
    (∃ (s : State) (v : Word) (rest : List Word), s.up ∧ s.part.ticks.scnt = v :: rest ∧ s.part.topo.mode =
      .running) ∧
    (∃ (s : State) (v : Word) (rest : List Word), s.up ∧ s.part.ticks.scnt = v :: rest ∧ s.part.topo.mode ≠
      .running) :=
  ⟨⟨ticks (sec rail 0 (sr .settling 0 bound0)) { Ticks.none with scnt := [64#32] }, 64#32, [],
      by decide +kernel⟩,
    ⟨ticks (mode rail .halted) { Ticks.none with scnt := [64#32] }, 64#32, [], by decide +kernel⟩⟩

theorem witness_SettleWaitEndClearsSection :
    (∃ (i : SectionId) (s : State) (n : SlotId), s.up ∧ s.part.topo.mode = .running ∧ s.part.ticks.scnt ≠ [] ∧
      s.part.scnt[i].state = .settling ∧ s.part.scnt[i].remaining = 0 ∧ (∀ e ∈ s.part.scnt[i].bounding,
      s.part.hdec[e.1].phase = .idle) ∧ s.part.scnt[i].slot = some n ∧ s.part.slots[n].busy = true ∧
      s.part.slots[n].kind = 1#8 ∧ s.part.slots[n].target.toNat = i.val) ∧
    (∃ (i : SectionId) (s : State) (v : Word) (rest : List Word), s.up ∧ s.part.topo.mode = .running ∧
      s.part.ticks.scnt ≠ [] ∧ s.part.scnt[i].state = .settling ∧ s.part.scnt[i].remaining = 0 ∧ (∀ e ∈
      s.part.scnt[i].bounding, s.part.hdec[e.1].phase = .idle) ∧ s.part.ticks.scnt = v :: rest ∧
      s.part.jrnl.active = true ∧ (∀ j : SectionId, j ≠ i → ¬ s.part.settles j)) :=
  ⟨⟨0, ticks (slot (sec rail 0 { sr .settling 0 bound0 with slot := some 2 }) 2 (busy .waiting 1#8 0#8))
      { Ticks.none with scnt := [64#32] }, 2, by decide +kernel⟩,
    ⟨0, ticks (slot (sec rail 0 { sr .settling 0 bound0 with slot := some 2 }) 2 (busy .waiting 1#8 0#8))
      { Ticks.none with scnt := [64#32] }, 64#32, [], by decide +kernel⟩⟩

theorem witness_RestorationsAccepted :
    (∃ (n : SlotId) (i : SectionId) (target : Byte) (s : State), s.screened n 1#8 target ∧ target.toNat = i.val
      ∧ s.part.scnt[i].state = .disturbed ∧ (∀ e ∈ s.part.scnt[i].bounding, s.part.supv[e.1].health ∈ [.healthy,
      .marginal])) ∧
    (∃ (n : SlotId) (i : SectionId) (target : Byte) (s : State), s.screened n 2#8 target ∧ target.toNat = i.val
      ∧ s.part.scnt[i].state = .disturbed ∧ (s.part.sectionEntry i).prepared = true ∧ s.part.scnt[i].cause ∈
      [some .headFailed, some .testAbort, some .resetCancelled] ∧ s.part.scnt[i].moved = false ∧ (∀ e ∈
      s.part.scnt[i].bounding, s.part.supv[e.1].health ∈ [.healthy, .marginal] ∧ s.part.hdec[e.1].phase = .idle
      ∧ s.part.hdec[e.1].standing = false)) :=
  ⟨⟨0, 0, 0#8, sec rail 0 { sr .disturbed 0 bound0 with cause := some .headFailed }, by decide +kernel⟩,
    ⟨0, 0, 0#8, sec rail 0 { sr .disturbed 0 bound0 with cause := some .headFailed }, by decide +kernel⟩⟩

theorem witness_HeadRestartAccepted :
    ∃ (n : SlotId) (h : HeadId) (target : Byte) (s : State), s.screened n 3#8 target ∧ target.toNat = h.val ∧
      s.part.supv[h].health = .failed :=
  ⟨0, 1, 1#8, health rail 1 { fit with health := .failed, score := 224 }, by decide +kernel⟩

theorem witness_HeadTestAccepted :
    ∃ (n : SlotId) (h : HeadId) (target : Byte) (s : State), s.screened n 4#8 target ∧ target.toNat = h.val ∧
      s.part.supv[h].health ∈ [.healthy, .marginal, .degraded] ∧ s.part.hdec[h].phase = .idle ∧
      s.part.hdec[h].standing = false ∧ (∀ i ∈ s.part.adjacent h, s.part.scnt[i].state = .clear) ∧
      s.part.gen.state = .idle ∧ s.part.gen.reportPending = false :=
  ⟨7, 1, 1#8, rail, by decide +kernel⟩

theorem witness_RequestsAreScreenedInOrder :
    (∃ (kind : Byte) (s : State), s.open_ ∧ kind = 0#8) ∧
    (∃ (n : SlotId) (kind : Byte) (s : State), s.open_ ∧ kind ≠ 0#8 ∧ s.part.slots[n].busy = true) ∧
    (∃ (n : SlotId) (kind : Byte) (s : State), s.open_ ∧ kind ≠ 0#8 ∧ s.part.slots[n].busy = false ∧
      s.part.topo.mode ≠ .running) ∧
    (∃ (n : SlotId) (kind : Byte) (token : Byte) (check : Byte) (s : State), s.open_ ∧ kind ≠ 0#8 ∧
      s.part.slots[n].busy = false ∧ s.part.topo.mode = .running ∧ check ≠ ~~~token) ∧
    (∃ (n : SlotId) (kind : Byte) (token : Byte) (check : Byte) (s : State), s.open_ ∧ kind ≠ 0#8 ∧
      s.part.slots[n].busy = false ∧ s.part.topo.mode = .running ∧ check = ~~~token ∧ 5 < kind.toNat) ∧
    (∃ (n : SlotId) (kind : Byte) (target : Byte) (token : Byte) (check : Byte) (s : State), s.open_ ∧ kind ≠
      0#8 ∧ s.part.slots[n].busy = false ∧ s.part.topo.mode = .running ∧ check = ~~~token ∧ kind.toNat ≤ 5 ∧ ¬
      s.part.serves n kind target) ∧
    (∃ (n : SlotId) (kind : Byte) (target : Byte) (token : Byte) (check : Byte) (s : State), s.open_ ∧ kind ≠
      0#8 ∧ s.part.slots[n].busy = false ∧ s.part.topo.mode = .running ∧ check = ~~~token ∧ kind.toNat ≤ 5 ∧ ¬
      s.part.serves n kind target) ∧
    (∃ (n : SlotId) (kind : Byte) (target : Byte) (token : Byte) (check : Byte) (s : State), s.open_ ∧ kind ≠
      0#8 ∧ s.part.slots[n].busy = false ∧ s.part.topo.mode = .running ∧ check = ~~~token ∧ kind.toNat ≤ 5 ∧ ¬
      s.part.serves n kind target) ∧
    (∃ (n : SlotId) (kind : Byte) (target : Byte) (token : Byte) (check : Byte) (s : State), s.open_ ∧ kind ≠
      0#8 ∧ s.part.slots[n].busy = false ∧ s.part.topo.mode = .running ∧ check = ~~~token ∧ kind.toNat ≤ 5 ∧
      s.part.serves n kind target ∧ s.part.namedElsewhere n kind target) :=
  ⟨⟨0#8, bench (testing 1), by decide +kernel⟩,
    ⟨3, 4#8, bench (testing 1), by decide +kernel⟩,
    ⟨2, 1#8, State.reset, by decide +kernel⟩,
    ⟨2, 1#8, 0x11#8, 0xEF#8, rail, by decide +kernel⟩,
    ⟨2, 6#8, 0x11#8, 0xEE#8, rail, by decide +kernel⟩,
    ⟨2, 1#8, 2#8, 0x11#8, 0xEE#8, rail, by decide +kernel⟩,
    ⟨2, 4#8, 3#8, 0x11#8, 0xEE#8, rail, by decide +kernel⟩,
    ⟨2, 5#8, 2#8, 0x11#8, 0xEE#8, rail, by decide +kernel⟩,
    ⟨2, 4#8, 1#8, 0x11#8, 0xEE#8, bench (testing 1), by decide +kernel⟩⟩

theorem witness_OwnersRefuseInOrder :
    (∃ (n : SlotId) (target : Byte) (s : State) (i : SectionId), target.toNat = i.val ∧ s.screened n 1#8 target
      ∧ s.part.scnt[i].state ≠ .disturbed) ∧
    (∃ (n : SlotId) (target : Byte) (s : State) (i : SectionId), target.toNat = i.val ∧ s.screened n 1#8 target
      ∧ s.part.scnt[i].state = .disturbed ∧ (∃ e ∈ s.part.scnt[i].bounding, s.part.supv[e.1].health ∉ [.healthy,
      .marginal])) ∧
    (∃ (n : SlotId) (target : Byte) (s : State) (i : SectionId), target.toNat = i.val ∧ s.screened n 2#8 target
      ∧ s.part.scnt[i].state ≠ .disturbed) ∧
    (∃ (n : SlotId) (target : Byte) (s : State) (i : SectionId), target.toNat = i.val ∧ s.screened n 2#8 target
      ∧ s.part.scnt[i].state = .disturbed ∧ ((s.part.sectionEntry i).prepared = false ∨ s.part.scnt[i].cause ∉
      [some .headFailed, some .testAbort, some .resetCancelled])) ∧
    (∃ (n : SlotId) (target : Byte) (s : State) (i : SectionId), target.toNat = i.val ∧ s.screened n 2#8 target
      ∧ s.part.scnt[i].state = .disturbed ∧ (s.part.sectionEntry i).prepared = true ∧ s.part.scnt[i].cause ∈
      [some .headFailed, some .testAbort, some .resetCancelled] ∧ s.part.scnt[i].moved = true) ∧
    (∃ (n : SlotId) (target : Byte) (s : State) (i : SectionId), target.toNat = i.val ∧ s.screened n 2#8 target
      ∧ s.part.scnt[i].state = .disturbed ∧ (s.part.sectionEntry i).prepared = true ∧ s.part.scnt[i].cause ∈
      [some .headFailed, some .testAbort, some .resetCancelled] ∧ s.part.scnt[i].moved = false ∧ (∃ e ∈
      s.part.scnt[i].bounding, s.part.supv[e.1].health ∉ [.healthy, .marginal] ∨ s.part.hdec[e.1].phase ≠ .idle
      ∨ s.part.hdec[e.1].standing = true)) ∧
    (∃ (n : SlotId) (target : Byte) (s : State) (h : HeadId), target.toNat = h.val ∧ s.screened n 3#8 target ∧
      s.part.supv[h].health ≠ .failed) ∧
    (∃ (n : SlotId) (target : Byte) (s : State) (h : HeadId), target.toNat = h.val ∧ s.screened n 4#8 target ∧
      (s.part.supv[h].health ∈ [.failed, .recovering] ∨ s.part.hdec[h].phase ≠ .idle ∨ s.part.hdec[h].standing =
      true)) ∧
    (∃ (n : SlotId) (target : Byte) (s : State) (h : HeadId), target.toNat = h.val ∧ s.screened n 4#8 target ∧
      s.part.supv[h].health ∈ [.healthy, .marginal, .degraded] ∧ s.part.hdec[h].phase = .idle ∧
      s.part.hdec[h].standing = false ∧ (∃ i ∈ s.part.adjacent h, s.part.scnt[i].state ≠ .clear)) ∧
    (∃ (n : SlotId) (target : Byte) (s : State) (h : HeadId), target.toNat = h.val ∧ s.screened n 4#8 target ∧
      s.part.supv[h].health ∈ [.healthy, .marginal, .degraded] ∧ s.part.hdec[h].phase = .idle ∧
      s.part.hdec[h].standing = false ∧ (∀ i ∈ s.part.adjacent h, s.part.scnt[i].state = .clear) ∧
      (s.part.gen.state ≠ .idle ∨ s.part.gen.reportPending = true)) ∧
    (∃ (n : SlotId) (target : Byte) (s : State) (m : SlotId), target.toNat = m.val ∧ s.screened n 5#8 target ∧
      s.part.slots[m].busy = false) :=
  ⟨⟨0, 0#8, rail, 0, by decide +kernel⟩,
    ⟨0, 0#8, health (sec rail 0 { sr .disturbed 0 bound0 with cause := some .headFailed }) 1
      { fit with health := .degraded, score := 112 }, 0, by decide +kernel⟩,
    ⟨0, 0#8, rail, 0, by decide +kernel⟩,
    ⟨0, 0#8, sec rail 0 { sr .disturbed 0 bound0 with cause := some .powerUp }, 0, by decide +kernel⟩,
    ⟨0, 0#8, sec rail 0 { sr .disturbed 0 bound0 with cause := some .testAbort, moved := true }, 0,
      by decide +kernel⟩,
    ⟨0, 0#8, head (sec rail 0 { sr .disturbed 0 bound0 with cause := some .headFailed }) 1 (hd .arrA true
      false), 0, by decide +kernel⟩,
    ⟨0, 1#8, rail, 1, by decide +kernel⟩,
    ⟨0, 1#8, head rail 1 (hd .arrA true false), 1, by decide +kernel⟩,
    ⟨0, 1#8, sec rail 0 (sr .occupied 1 bound0), 1, by decide +kernel⟩,
    ⟨0, 1#8, gen rail { Generator.powerOn 0 with reportPending := true }, 1, by decide +kernel⟩,
    ⟨0, 1#8, rail, 1, by decide +kernel⟩⟩

theorem witness_CancelEndsSweep :
    (∃ (n : SlotId) (m : SlotId) (i : SectionId) (target : Byte) (s : State), s.screened n 5#8 target ∧
      target.toNat = m.val ∧ s.part.slots[m].busy = true ∧ s.part.slots[m].kind = 1#8 ∧ s.part.scnt[i].slot =
      some m ∧ (∀ j : SectionId, s.part.scnt[j].slot = some m → j = i) ∧ s.part.scnt[i].state ∈ [.sweepWait,
      .sweeping, .settling]) ∧
    (∃ (n : SlotId) (m : SlotId) (i : SectionId) (target : Byte) (s : State), s.screened n 5#8 target ∧
      target.toNat = m.val ∧ s.part.slots[m].busy = true ∧ s.part.slots[m].kind = 1#8 ∧ s.part.scnt[i].slot =
      some m ∧ (∀ j : SectionId, s.part.scnt[j].slot = some m → j = i) ∧ s.part.scnt[i].state ∈ [.sweepWait,
      .sweeping, .settling]) :=
  ⟨⟨0, 2, 0, 2#8, slot (sec rail 0 { sr .sweepWait 0 bound0 with slot := some 2 }) 2 (busy .waiting 1#8 0#8),
      by decide +kernel⟩,
    ⟨0, 2, 0, 2#8, slot (sec rail 0 { sr .settling 0 bound0 with slot := some 2 }) 2 (busy .waiting 1#8 0#8),
      by decide +kernel⟩⟩

theorem witness_CancelEndsRestart :
    ∃ (n : SlotId) (m : SlotId) (h : HeadId) (target : Byte) (s : State), s.screened n 5#8 target ∧ target.toNat
      = m.val ∧ s.part.slots[m].busy = true ∧ s.part.slots[m].kind = 3#8 ∧ s.part.supv[h].health = .recovering ∧
      s.part.supv[h].restartSlot = some m ∧ (∀ g : HeadId, s.part.supv[g].restartSlot = some m → g = h) :=
  ⟨0, 2, 1, 2#8, slot (health rail 1 { fit with health := .recovering, score := 224, restartSlot := some 2 }) 2
    (busy .waiting 3#8 1#8), by decide +kernel⟩

theorem witness_CancelEndsTest :
    ∃ (n : SlotId) (m : SlotId) (h : HeadId) (d : Direction) (target : Byte) (s : State), s.screened n 5#8
      target ∧ target.toNat = m.val ∧ s.part.slots[m].busy = true ∧ s.part.slots[m].kind = 4#8 ∧
      s.part.gen.state = .running ∧ s.part.gen.target = some h ∧ s.part.gen.direction = some d :=
  ⟨0, 3, 1, .aToB, 3#8, bench (testing 0), by decide +kernel⟩

theorem witness_PartialCommandAndParameterWrites :
    (∃ (lanes : Lanes) (s : State), s.open_ ∧ lanes ≠ fullLanes ∧ s.counting) ∧
    (∃ (lanes : Lanes) (s : State), s.open_ ∧ lanes ≠ fullLanes ∧ s.part.topo.mode ≠ .running) ∧
    (∃ (s : State), s.open_) ∧
    (∃ (s : State) (i : Nat), s.open_ ∧ i < 4) :=
  ⟨⟨0x7#4, rail, by decide +kernel⟩,
    ⟨0x7#4, State.reset, by decide +kernel⟩,
    ⟨rail, by decide +kernel⟩,
    ⟨rail, 3, by decide +kernel⟩⟩

theorem witness_ConsumerWriteIsJudged :
    (∃ (v : Word) (s : State) (k : Nat) (C : Nat) (P : Nat), s.open_ ∧ k = s.part.topo.params.ringCode ∧ C =
      s.part.jrnl.consumer ∧ P = s.part.jrnl.producer ∧ C < 2 ^ k ∧ P < 2 ^ k ∧ s.part.topo.mode ≠ .unconfigured
      ∧ v.toNat < 2 ^ k ∧ (v.toNat + 2 ^ k - C) % 2 ^ k ≤ (P + 2 ^ k - C) % 2 ^ k) ∧
    (∃ (v : Word) (s : State) (k : Nat) (C : Nat) (P : Nat), s.open_ ∧ k = s.part.topo.params.ringCode ∧ C =
      s.part.jrnl.consumer ∧ P = s.part.jrnl.producer ∧ C < 2 ^ k ∧ P < 2 ^ k ∧ s.counting ∧ (2 ^ k ≤ v.toNat ∨
      (P + 2 ^ k - C) % 2 ^ k < (v.toNat + 2 ^ k - C) % 2 ^ k)) ∧
    (∃ (v : Word) (s : State) (k : Nat) (C : Nat) (P : Nat), s.open_ ∧ k = s.part.topo.params.ringCode ∧ C =
      s.part.jrnl.consumer ∧ P = s.part.jrnl.producer ∧ C < 2 ^ k ∧ P < 2 ^ k ∧ s.counting ∧ (2 ^ k ≤ v.toNat ∨
      (P + 2 ^ k - C) % 2 ^ k < (v.toNat + 2 ^ k - C) % 2 ^ k)) ∧
    (∃ (v : Word) (s : State) (k : Nat) (C : Nat) (P : Nat), s.open_ ∧ k = s.part.topo.params.ringCode ∧ C =
      s.part.jrnl.consumer ∧ P = s.part.jrnl.producer ∧ C < 2 ^ k ∧ P < 2 ^ k ∧ s.part.topo.mode = .halted ∧ (2
      ^ k ≤ v.toNat ∨ (P + 2 ^ k - C) % 2 ^ k < (v.toNat + 2 ^ k - C) % 2 ^ k)) ∧
    (∃ (s : State) (k : Nat) (C : Nat) (P : Nat), s.open_ ∧ k = s.part.topo.params.ringCode ∧ C =
      s.part.jrnl.consumer ∧ P = s.part.jrnl.producer ∧ C < 2 ^ k ∧ P < 2 ^ k ∧ s.part.topo.mode =
      .unconfigured) :=
  ⟨⟨2#32, jrnl (rail) { Journal.powerOn with active := true, producer := 2, consumer := 15 }, 4, 15, 2,
      by decide +kernel⟩,
    ⟨3#32, jrnl (rail) { Journal.powerOn with active := true, producer := 2, consumer := 15 }, 4, 15, 2,
      by decide +kernel⟩,
    ⟨16#32, jrnl (rail) { Journal.powerOn with active := true, producer := 2, consumer := 15 }, 4, 15, 2,
      by decide +kernel⟩,
    ⟨14#32, jrnl (mode rail .halted) { Journal.powerOn with active := true, producer := 2, consumer := 15 }, 4,
      15, 2, by decide +kernel⟩,
    ⟨State.reset, 0, 0, 0, by decide +kernel⟩⟩

theorem witness_AttnFollowsModeAndRing :
    (∃ (s : State), s.up ∧ s.part.topo.mode = .unconfigured ∧ s.part.jrnl.active = false) ∧
    (∃ (s : State) (k : Nat) (v : Word), s.up ∧ s.open_ ∧ s.counting ∧ k = s.part.topo.params.ringCode ∧
      s.part.jrnl.consumer < 2 ^ k ∧ s.part.jrnl.producer < 2 ^ k ∧ v.toNat < 2 ^ k ∧ (v.toNat + 2 ^ k -
      s.part.jrnl.consumer) % 2 ^ k ≤ (s.part.jrnl.producer + 2 ^ k - s.part.jrnl.consumer) % 2 ^ k) ∧
    (∃ (s : State) (k : Nat) (v : Word), s.up ∧ s.open_ ∧ s.counting ∧ k = s.part.topo.params.ringCode ∧
      s.part.jrnl.consumer < 2 ^ k ∧ s.part.jrnl.producer < 2 ^ k ∧ v.toNat < 2 ^ k ∧ (v.toNat + 2 ^ k -
      s.part.jrnl.consumer) % 2 ^ k ≤ (s.part.jrnl.producer + 2 ^ k - s.part.jrnl.consumer) % 2 ^ k) ∧
    (∃ (s : State) (w : JournalWord) (r : JRecord) (rest : List JRecord), s.up ∧ s.counting ∧ s.path.jword =
      some w ∧ s.part.jrnl.writing = some .w0 ∧ s.part.jrnl.queue = r :: rest ∧ (∀ sum dropped, r.detail ≠ .halt
      sum dropped) ∧ (s.part.jrnl.producer + 1) % 2 ^ s.part.topo.params.ringCode ≠ s.part.jrnl.consumer) ∧
    (∃ (s : State) (c : Instr), s.up ∧ s.part.topo.mode = .halted ∧ c ≠ .porstAssert) ∧
    (∃ (s : State) (c : Instr), s.up ∧ (c = .cpurstAssert ∨ c = .cpurstRelease)) :=
  ⟨⟨State.reset, by decide +kernel⟩,
    ⟨jrnl (rail) { Journal.powerOn with active := true, producer := 2, consumer := 15 }, 4, 2#32,
      by decide +kernel⟩,
    ⟨jrnl (rail) { Journal.powerOn with active := true, producer := 2, consumer := 15 }, 4, 1#32,
      by decide +kernel⟩,
    ⟨path (jrnl rail
      { Journal.powerOn with active := true, queue := [entry (.gap 1) 0#16], nextSeq := 1#16, writing := some .w0, consumer := 3 })
      { rail.path with jword := some { addr := 0x008004#24, data := 0#32 } },
      { addr := 0x008004#24, data := 0#32 }, entry (.gap 1) 0#16, [], by decide +kernel, by decide +kernel,
      by decide +kernel, by decide +kernel, by decide +kernel, (by intro x y e; cases e), by decide +kernel⟩,
    ⟨mode rail .halted, .cpurstRelease, by decide +kernel⟩,
    ⟨rail, .cpurstAssert, by decide +kernel⟩⟩

theorem witness_SupervisionTickScansOneHead :
    (∃ (v : Word) (rest : List Word) (s : State), s.up ∧ s.part.ticks.supv = v :: rest ∧ ¬ s.part.inTurn v
      s.part.ticks.slowSupv) ∧
    (∃ (v : Word) (rest : List Word) (s : State), s.up ∧ s.part.ticks.supv = v :: rest ∧ s.part.inTurn v
      s.part.ticks.slowSupv ∧ s.part.topo.mode ≠ .running) ∧
    (∃ (h : HeadId) (a : Amp) (b : Amp) (v : Word) (rest : List Word) (s : State) (ca : AmpClass) (cb :
      AmpClass) (ea : Option (ScoreChange × Trigger)) (eb : Option (ScoreChange × Trigger)) (v0 : HeadHealth)
      (v1 : HeadHealth) (v2 : HeadHealth) (quiet : Bool), s.up ∧ s.part.ticks.supv = v :: rest ∧ s.part.inTurn v
      s.part.ticks.slowSupv ∧ s.part.topo.mode = .running ∧ s.part.used h = true ∧ s.part.hdec[h].phase ≠ .test
      ∧ s.part.ticks.scanNext ≤ h.val ∧ (∀ g : HeadId, s.part.ticks.scanNext ≤ g.val → g.val < h.val →
      s.part.used g = false ∨ s.part.hdec[g].phase = .test) ∧ ca = s.part.topo.params.ampClass a ∧ cb =
      s.part.topo.params.ampClass b ∧ ea = scanEvent ca s.part.hdec[h].sensorA s.part.tbase.us ∧ eb = scanEvent
      cb s.part.hdec[h].sensorB s.part.tbase.us ∧ v0 =
      { s.part.supv[h] with classA := some ca, classB := some cb } ∧ v1 = v0.scored ea ∧ v2 = v1.scored eb ∧
      quiet = decide (ca = .normal ∧ cb = .normal ∧ s.part.hdec[h].sensorA.damped = false ∧
      s.part.hdec[h].sensorB.damped = false ∧ s.part.supv[h].refTimes = some (s.part.hdec[h].sensorA.edgeTime,
      s.part.hdec[h].sensorB.edgeTime))) ∧
    (∃ (h : HeadId) (a : Amp) (b : Amp) (v : Word) (rest : List Word) (s : State) (ca : AmpClass) (cb :
      AmpClass) (ea : Option (ScoreChange × Trigger)) (eb : Option (ScoreChange × Trigger)) (v0 : HeadHealth)
      (v1 : HeadHealth) (v2 : HeadHealth) (quiet : Bool), s.up ∧ s.part.ticks.supv = v :: rest ∧ s.part.inTurn v
      s.part.ticks.slowSupv ∧ s.part.topo.mode = .running ∧ s.part.used h = true ∧ s.part.hdec[h].phase ≠ .test
      ∧ s.part.ticks.scanNext ≤ h.val ∧ (∀ g : HeadId, s.part.ticks.scanNext ≤ g.val → g.val < h.val →
      s.part.used g = false ∨ s.part.hdec[g].phase = .test) ∧ ca = s.part.topo.params.ampClass a ∧ cb =
      s.part.topo.params.ampClass b ∧ ea = scanEvent ca s.part.hdec[h].sensorA s.part.tbase.us ∧ eb = scanEvent
      cb s.part.hdec[h].sensorB s.part.tbase.us ∧ v0 =
      { s.part.supv[h] with classA := some ca, classB := some cb } ∧ v1 = v0.scored ea ∧ v2 = v1.scored eb ∧
      quiet = decide (ca = .normal ∧ cb = .normal ∧ s.part.hdec[h].sensorA.damped = false ∧
      s.part.hdec[h].sensorB.damped = false ∧ s.part.supv[h].refTimes = some (s.part.hdec[h].sensorA.edgeTime,
      s.part.hdec[h].sensorB.edgeTime))) ∧
    (∃ (h : HeadId) (a : Amp) (b : Amp) (v : Word) (rest : List Word) (s : State) (ca : AmpClass) (cb :
      AmpClass) (ea : Option (ScoreChange × Trigger)) (eb : Option (ScoreChange × Trigger)) (v0 : HeadHealth)
      (v1 : HeadHealth) (v2 : HeadHealth) (quiet : Bool), s.up ∧ s.part.ticks.supv = v :: rest ∧ s.part.inTurn v
      s.part.ticks.slowSupv ∧ s.part.topo.mode = .running ∧ s.part.used h = true ∧ s.part.hdec[h].phase ≠ .test
      ∧ s.part.ticks.scanNext ≤ h.val ∧ (∀ g : HeadId, s.part.ticks.scanNext ≤ g.val → g.val < h.val →
      s.part.used g = false ∨ s.part.hdec[g].phase = .test) ∧ ca = s.part.topo.params.ampClass a ∧ cb =
      s.part.topo.params.ampClass b ∧ ea = scanEvent ca s.part.hdec[h].sensorA s.part.tbase.us ∧ eb = scanEvent
      cb s.part.hdec[h].sensorB s.part.tbase.us ∧ v0 =
      { s.part.supv[h] with classA := some ca, classB := some cb } ∧ v1 = v0.scored ea ∧ v2 = v1.scored eb ∧
      quiet = decide (ca = .normal ∧ cb = .normal ∧ s.part.hdec[h].sensorA.damped = false ∧
      s.part.hdec[h].sensorB.damped = false ∧ s.part.supv[h].refTimes = some (s.part.hdec[h].sensorA.edgeTime,
      s.part.hdec[h].sensorB.edgeTime))) ∧
    (∃ (h : HeadId) (a : Amp) (b : Amp) (v : Word) (rest : List Word) (s : State) (ca : AmpClass) (cb :
      AmpClass) (ea : Option (ScoreChange × Trigger)) (eb : Option (ScoreChange × Trigger)) (v0 : HeadHealth)
      (v1 : HeadHealth) (v2 : HeadHealth) (quiet : Bool), s.up ∧ s.part.ticks.supv = v :: rest ∧ s.part.inTurn v
      s.part.ticks.slowSupv ∧ s.part.topo.mode = .running ∧ s.part.used h = true ∧ s.part.hdec[h].phase ≠ .test
      ∧ s.part.ticks.scanNext ≤ h.val ∧ (∀ g : HeadId, s.part.ticks.scanNext ≤ g.val → g.val < h.val →
      s.part.used g = false ∨ s.part.hdec[g].phase = .test) ∧ ca = s.part.topo.params.ampClass a ∧ cb =
      s.part.topo.params.ampClass b ∧ ea = scanEvent ca s.part.hdec[h].sensorA s.part.tbase.us ∧ eb = scanEvent
      cb s.part.hdec[h].sensorB s.part.tbase.us ∧ v0 =
      { s.part.supv[h] with classA := some ca, classB := some cb } ∧ v1 = v0.scored ea ∧ v2 = v1.scored eb ∧
      quiet = decide (ca = .normal ∧ cb = .normal ∧ s.part.hdec[h].sensorA.damped = false ∧
      s.part.hdec[h].sensorB.damped = false ∧ s.part.supv[h].refTimes = some (s.part.hdec[h].sensorA.edgeTime,
      s.part.hdec[h].sensorB.edgeTime))) ∧
    (∃ (h : HeadId) (a : Amp) (b : Amp) (v : Word) (rest : List Word) (s : State) (ca : AmpClass) (cb :
      AmpClass) (ea : Option (ScoreChange × Trigger)) (eb : Option (ScoreChange × Trigger)) (v0 : HeadHealth)
      (v1 : HeadHealth) (v2 : HeadHealth) (quiet : Bool), s.up ∧ s.part.ticks.supv = v :: rest ∧ s.part.inTurn v
      s.part.ticks.slowSupv ∧ s.part.topo.mode = .running ∧ s.part.used h = true ∧ s.part.hdec[h].phase ≠ .test
      ∧ s.part.ticks.scanNext ≤ h.val ∧ (∀ g : HeadId, s.part.ticks.scanNext ≤ g.val → g.val < h.val →
      s.part.used g = false ∨ s.part.hdec[g].phase = .test) ∧ ca = s.part.topo.params.ampClass a ∧ cb =
      s.part.topo.params.ampClass b ∧ ea = scanEvent ca s.part.hdec[h].sensorA s.part.tbase.us ∧ eb = scanEvent
      cb s.part.hdec[h].sensorB s.part.tbase.us ∧ v0 =
      { s.part.supv[h] with classA := some ca, classB := some cb } ∧ v1 = v0.scored ea ∧ v2 = v1.scored eb ∧
      quiet = decide (ca = .normal ∧ cb = .normal ∧ s.part.hdec[h].sensorA.damped = false ∧
      s.part.hdec[h].sensorB.damped = false ∧ s.part.supv[h].refTimes = some (s.part.hdec[h].sensorA.edgeTime,
      s.part.hdec[h].sensorB.edgeTime))) :=
  ⟨⟨16#32, [], clock (ticks rail { Ticks.none with supv := [16#32], slowSupv := [8#32] }) 0#32 17#32 0,
      by decide +kernel, by decide +kernel, not_inTurn (u := 8#32) (us := []) (by decide +kernel)
      (by decide +kernel)⟩,
    ⟨8#32, [], ticks (mode rail .halted) { Ticks.none with supv := [8#32] }, by decide +kernel,
      by decide +kernel, inTurn_nil (by decide +kernel), by decide +kernel⟩,
    ⟨0, 100#10, 950#10, 8#32, [], ticks rail { Ticks.none with supv := [8#32] }, .open_, .short, some (.up 64,
      .scanOpen), some (.up 64, .scanShort), _, _, _, false, by decide +kernel, by decide +kernel, inTurn_nil
      (by decide +kernel), by decide +kernel, by decide +kernel, by decide +kernel, by decide +kernel,
      by decide +kernel, by decide +kernel, by decide +kernel, by decide +kernel, by decide +kernel, rfl, rfl,
      rfl, by decide +kernel⟩,
    ⟨1, 100#10, 100#10, 8#32, [], ticks (health rail 1 { fit with health := .degraded, score := 160 })
      { Ticks.none with supv := [8#32], scanNext := 1 }, .open_, .open_, some (.up 64, .scanOpen), some (.up 64,
      .scanOpen), _, _, _, false, by decide +kernel, by decide +kernel, inTurn_nil (by decide +kernel),
      by decide +kernel, by decide +kernel, by decide +kernel, by decide +kernel, by decide +kernel,
      by decide +kernel, by decide +kernel, by decide +kernel, by decide +kernel, rfl, rfl, rfl,
      by decide +kernel⟩,
    ⟨2, 600#10, 401#10, 8#32, [], ticks (health rail 2
      { fit with health := .recovering, score := 224, quiet := 249, refTimes := some (0#32, 0#32) })
      { Ticks.none with supv := [8#32], scanNext := 2 }, .normal, .indeterminate, none, some (.up 4,
      .scanIndeterminate), _, _, _, false, by decide +kernel, by decide +kernel, inTurn_nil (by decide +kernel),
      by decide +kernel, by decide +kernel, by decide +kernel, by decide +kernel, by decide +kernel,
      by decide +kernel, by decide +kernel, by decide +kernel, by decide +kernel, rfl, rfl, rfl,
      by decide +kernel⟩,
    ⟨2, 600#10, 600#10, 8#32, [], ticks (health rail 2
      { fit with health := .recovering, score := 224, quiet := 248, refTimes := some (0#32, 0#32) })
      { Ticks.none with supv := [8#32], scanNext := 2 }, .normal, .normal, none, none, _, _, _, true,
      by decide +kernel, by decide +kernel, inTurn_nil (by decide +kernel), by decide +kernel,
      by decide +kernel, by decide +kernel, by decide +kernel, by decide +kernel, by decide +kernel,
      by decide +kernel, by decide +kernel, by decide +kernel, rfl, rfl, rfl, by decide +kernel⟩,
    ⟨2, 600#10, 600#10, 512#32, [], clock (ticks rail
      { Ticks.none with supv := [512#32], slowSupv := [512#32], scanNext := 2 }) 0#32 513#32 0, .normal,
      .normal, none, none, _, _, _, false, by decide +kernel, by decide +kernel, inTurn_cons (u := 512#32) (us
      := []) (by decide +kernel) (by decide +kernel), by decide +kernel, by decide +kernel, by decide +kernel,
      by decide +kernel, by decide +kernel, by decide +kernel, by decide +kernel, by decide +kernel,
      by decide +kernel, rfl, rfl, rfl, by decide +kernel⟩⟩

theorem witness_AmplitudeClasses :
    ∃ (c : Params), c.openMax < c.dampedLow ∧ c.dampedLow ≤ c.dampedHigh ∧ c.dampedHigh < c.normalLow ∧
      c.normalLow ≤ c.normalHigh ∧ c.normalHigh < c.shortMin :=
  ⟨params, by decide +kernel⟩

theorem witness_ScanEventsAndHealthTable :
    (∃ (x : Sensor) (us : Word) (stable : Prop), (stable ↔ x.edgeAge ≥ 15 ∨ 2000 ≤ (us - x.edgeTime).toNat) ∧
      x.damped = true) ∧
    (∃ (x : Sensor) (us : Word) (stable : Prop), (stable ↔ x.edgeAge ≥ 15 ∨ 2000 ≤ (us - x.edgeTime).toNat) ∧
      x.damped = false ∧ stable) ∧
    (∃ (x : Sensor) (us : Word) (stable : Prop), (stable ↔ x.edgeAge ≥ 15 ∨ 2000 ≤ (us - x.edgeTime).toNat) ∧
      x.damped = false ∧ ¬stable) ∧
    (∃ (x : Sensor) (us : Word) (stable : Prop), (stable ↔ x.edgeAge ≥ 15 ∨ 2000 ≤ (us - x.edgeTime).toNat) ∧
      x.damped = false) ∧
    (∃ (x : Sensor) (us : Word) (stable : Prop), (stable ↔ x.edgeAge ≥ 15 ∨ 2000 ≤ (us - x.edgeTime).toNat) ∧
      x.damped = true ∧ stable) ∧
    (∃ (x : Sensor) (us : Word) (stable : Prop), (stable ↔ x.edgeAge ≥ 15 ∨ 2000 ≤ (us - x.edgeTime).toNat) ∧
      x.damped = true ∧ ¬stable) ∧
    (∃ (n : Nat), n ≤ 255) ∧
    (∃ (n : Nat), 224 ≤ n) ∧
    (∃ (n : Nat), 112 ≤ n ∧ n ≤ 223) ∧
    (∃ (n : Nat), 48 ≤ n ∧ n ≤ 111) ∧
    (∃ (n : Nat), n < 48) ∧
    (∃ (n : Nat), 32 ≤ n ∧ n ≤ 111) ∧
    (∃ (n : Nat), n < 32) ∧
    (∃ (n : Nat), 96 ≤ n ∧ n ≤ 223) ∧
    (∃ (n : Nat), 32 ≤ n ∧ n ≤ 95) :=
  ⟨⟨{ damped := true, edgeTime := 0#32, edgeAge := 0 }, 0#32, False, by decide⟩,
    ⟨{ damped := false, edgeTime := 0#32, edgeAge := 14 }, 2000#32, True, by decide⟩,
    ⟨{ damped := false, edgeTime := 0#32, edgeAge := 14 }, 1999#32, False, by decide⟩,
    ⟨{ damped := false, edgeTime := 0#32, edgeAge := 15 }, 0#32, True, by decide⟩,
    ⟨{ damped := true, edgeTime := 0#32, edgeAge := 15 }, 0#32, True, by decide⟩,
    ⟨{ damped := true, edgeTime := 0#32, edgeAge := 1 }, 1999#32, False, by decide⟩,
    ⟨255, by decide⟩,
    ⟨224, by decide⟩,
    ⟨223, by decide⟩,
    ⟨111, by decide⟩,
    ⟨47, by decide⟩,
    ⟨32, by decide⟩,
    ⟨31, by decide⟩,
    ⟨96, by decide⟩,
    ⟨95, by decide⟩⟩

theorem witness_ReportsChangeScore :
    (∃ (h : HeadId) (s : State) (c : Instr) (m : ToSupv) (e : ScoreChange) (g : Trigger) (test : Bool), (c, m,
      e, g, test) ∈ [(.separationFaultReport h, .separationFault h, .up 32, .separation, false), (.glitchReport
      h, .glitch h, .up 8, .glitch, false), (.cleanPassageReport h, .cleanPassage h, .down 1, .cleanPassage,
      false), (.testPassedReport h, .testPassed h, .down 16, .testPass, true), (.testFailedReport h, .testFailed
      h, .up 64, .testFail, true)] ∧ s.up ∧ m ∈ s.part.sent.stale) ∧
    (∃ (h : HeadId) (s : State) (c : Instr) (m : ToSupv) (e : ScoreChange) (g : Trigger) (test : Bool), (c, m,
      e, g, test) ∈ [(.separationFaultReport h, .separationFault h, .up 32, .separation, false), (.glitchReport
      h, .glitch h, .up 8, .glitch, false), (.cleanPassageReport h, .cleanPassage h, .down 1, .cleanPassage,
      false), (.testPassedReport h, .testPassed h, .down 16, .testPass, true), (.testFailedReport h, .testFailed
      h, .up 64, .testFail, true)] ∧ s.up ∧ m ∈ s.part.sent.supv ∧ m ∉ s.part.sent.stale ∧ s.part.hdec[h].phase
      = .test) ∧
    (∃ (h : HeadId) (s : State) (c : Instr) (m : ToSupv) (e : ScoreChange) (g : Trigger) (test : Bool), (c, m,
      e, g, test) ∈ [(.separationFaultReport h, .separationFault h, .up 32, .separation, false), (.glitchReport
      h, .glitch h, .up 8, .glitch, false), (.cleanPassageReport h, .cleanPassage h, .down 1, .cleanPassage,
      false), (.testPassedReport h, .testPassed h, .down 16, .testPass, true), (.testFailedReport h, .testFailed
      h, .up 64, .testFail, true)] ∧ s.up ∧ m ∈ s.part.sent.supv ∧ m ∉ s.part.sent.stale ∧ s.part.hdec[h].phase
      ≠ .test) ∧
    (∃ (h : HeadId) (s : State) (c : Instr) (m : ToSupv) (e : ScoreChange) (g : Trigger) (test : Bool), (c, m,
      e, g, test) ∈ [(.separationFaultReport h, .separationFault h, .up 32, .separation, false), (.glitchReport
      h, .glitch h, .up 8, .glitch, false), (.cleanPassageReport h, .cleanPassage h, .down 1, .cleanPassage,
      false), (.testPassedReport h, .testPassed h, .down 16, .testPass, true), (.testFailedReport h, .testFailed
      h, .up 64, .testFail, true)] ∧ s.up ∧ m ∈ s.part.sent.supv ∧ m ∉ s.part.sent.stale ∧ s.part.hdec[h].phase
      ≠ .test) ∧
    (∃ (h : HeadId) (s : State) (c : Instr) (m : ToSupv) (e : ScoreChange) (g : Trigger) (test : Bool), (c, m,
      e, g, test) ∈ [(.separationFaultReport h, .separationFault h, .up 32, .separation, false), (.glitchReport
      h, .glitch h, .up 8, .glitch, false), (.cleanPassageReport h, .cleanPassage h, .down 1, .cleanPassage,
      false), (.testPassedReport h, .testPassed h, .down 16, .testPass, true), (.testFailedReport h, .testFailed
      h, .up 64, .testFail, true)] ∧ s.up ∧ m ∈ s.part.sent.supv ∧ m ∉ s.part.sent.stale ∧ s.part.hdec[h].phase
      ≠ .test) ∧
    (∃ (h : HeadId) (s : State) (c : Instr) (m : ToSupv) (e : ScoreChange) (g : Trigger) (test : Bool), (c, m,
      e, g, test) ∈ [(.separationFaultReport h, .separationFault h, .up 32, .separation, false), (.glitchReport
      h, .glitch h, .up 8, .glitch, false), (.cleanPassageReport h, .cleanPassage h, .down 1, .cleanPassage,
      false), (.testPassedReport h, .testPassed h, .down 16, .testPass, true), (.testFailedReport h, .testFailed
      h, .up 64, .testFail, true)] ∧ s.up ∧ m ∈ s.part.sent.supv ∧ m ∉ s.part.sent.stale ∧ s.part.hdec[h].phase
      ≠ .test) :=
  ⟨⟨1, sent rail { InFlight.none with stale := [.testFailed 1] }, .testFailedReport 1, .testFailed 1, .up 64,
      .testFail, true, by decide +kernel⟩,
    ⟨1, sent (bench (testing 1)) { InFlight.none with supv := [.glitch 1] }, .glitchReport 1, .glitch 1, .up 8,
      .glitch, false, by decide +kernel⟩,
    ⟨1, sent rail { InFlight.none with supv := [.separationFault 1] }, .separationFaultReport 1,
      .separationFault 1, .up 32, .separation, false, by decide +kernel⟩,
    ⟨1, sent rail { InFlight.none with supv := [.cleanPassage 1] }, .cleanPassageReport 1, .cleanPassage 1,
      .down 1, .cleanPassage, false, by decide +kernel⟩,
    ⟨1, sent rail { InFlight.none with supv := [.testPassed 1] }, .testPassedReport 1, .testPassed 1, .down 16,
      .testPass, true, by decide +kernel⟩,
    ⟨1, sent rail { InFlight.none with supv := [.testFailed 1] }, .testFailedReport 1, .testFailed 1, .up 64,
      .testFail, true, by decide +kernel⟩⟩

theorem witness_HeadFailureStopsHeadAndSections :
    (∃ (h : HeadId) (s : State) (c : Instr) (m : ToSupv) (n : Nat) (g : Trigger), (c, m, n, g) ∈
      [(.separationFaultReport h, .separationFault h, 32, .separation), (.glitchReport h, .glitch h, 8,
      .glitch), (.testFailedReport h, .testFailed h, 64, .testFail)] ∧ s.counting ∧ m ∈ s.part.sent.supv ∧ m ∉
      s.part.sent.stale ∧ s.part.hdec[h].phase ≠ .test ∧ s.part.supv[h].health ∈ [.healthy, .marginal,
      .degraded] ∧ s.part.supv[h].score ≤ 223 ∧ 224 ≤ s.part.supv[h].score + n ∧ s.part.twoSections h) ∧
    (∃ (h : HeadId) (s : State) (c : Instr) (m : ToSupv) (n : Nat) (g : Trigger), (c, m, n, g) ∈
      [(.separationFaultReport h, .separationFault h, 32, .separation), (.glitchReport h, .glitch h, 8,
      .glitch), (.testFailedReport h, .testFailed h, 64, .testFail)] ∧ s.counting ∧ m ∈ s.part.sent.supv ∧ m ∉
      s.part.sent.stale ∧ s.part.hdec[h].phase ≠ .test ∧ s.part.supv[h].health ∈ [.healthy, .marginal,
      .degraded] ∧ s.part.supv[h].score ≤ 223 ∧ 224 ≤ s.part.supv[h].score + n ∧ s.part.twoSections h) ∧
    (∃ (h : HeadId) (s : State) (c : Instr) (m : ToSupv) (n : Nat) (g : Trigger), (c, m, n, g) ∈
      [(.separationFaultReport h, .separationFault h, 32, .separation), (.glitchReport h, .glitch h, 8,
      .glitch), (.testFailedReport h, .testFailed h, 64, .testFail)] ∧ s.counting ∧ m ∈ s.part.sent.supv ∧ m ∉
      s.part.sent.stale ∧ s.part.hdec[h].phase ≠ .test ∧ s.part.supv[h].health ∈ [.healthy, .marginal,
      .degraded] ∧ s.part.supv[h].score ≤ 223 ∧ 224 ≤ s.part.supv[h].score + n ∧ s.part.twoSections h) :=
  ⟨⟨1, health (sent rail { InFlight.none with supv := [.separationFault 1] }) 1
      { fit with health := .degraded, score := 192 }, .separationFaultReport 1, .separationFault 1, 32,
      .separation, by decide +kernel⟩,
    ⟨1, health (sent rail { InFlight.none with supv := [.glitch 1] }) 1
      { fit with health := .degraded, score := 223 }, .glitchReport 1, .glitch 1, 8, .glitch, by decide +kernel⟩,
    ⟨1, health (sent rail { InFlight.none with supv := [.testFailed 1] }) 1
      { fit with health := .degraded, score := 160 }, .testFailedReport 1, .testFailed 1, 64, .testFail,
      by decide +kernel⟩⟩

theorem witness_RecoveryCompletesAndHeadReturns :
    (∃ (h : HeadId) (n : SlotId) (a : Amp) (b : Amp) (v : Word) (rest : List Word) (s : State), s.counting ∧
      s.part.ticks.supv = v :: rest ∧ s.part.inTurn v s.part.ticks.slowSupv ∧ s.part.used h = true ∧
      s.part.hdec[h].phase ≠ .test ∧ s.part.ticks.scanNext ≤ h.val ∧ (∀ g : HeadId, s.part.ticks.scanNext ≤
      g.val → g.val < h.val → s.part.used g = false ∨ s.part.hdec[g].phase = .test) ∧ s.part.supv[h].health =
      .recovering ∧ s.part.supv[h].quiet = 249 ∧ s.part.supv[h].restartSlot = some n ∧
      s.part.topo.params.ampClass a = .normal ∧ s.part.topo.params.ampClass b = .normal ∧
      s.part.hdec[h].sensorA.damped = false ∧ s.part.hdec[h].sensorB.damped = false ∧ s.part.supv[h].refTimes =
      some (s.part.hdec[h].sensorA.edgeTime, s.part.hdec[h].sensorB.edgeTime) ∧ s.part.slots[n].busy = true ∧
      s.part.slots[n].kind = 3#8 ∧ s.part.slots[n].target.toNat = h.val) ∧
    (∃ (h : HeadId) (n : SlotId) (a : Amp) (b : Amp) (v : Word) (rest : List Word) (s : State) (g : HeadId),
      s.counting ∧ s.part.ticks.supv = v :: rest ∧ s.part.inTurn v s.part.ticks.slowSupv ∧ s.part.used h = true
      ∧ s.part.hdec[h].phase ≠ .test ∧ s.part.ticks.scanNext ≤ h.val ∧ (∀ g : HeadId, s.part.ticks.scanNext ≤
      g.val → g.val < h.val → s.part.used g = false ∨ s.part.hdec[g].phase = .test) ∧ s.part.supv[h].health =
      .recovering ∧ s.part.supv[h].quiet = 249 ∧ s.part.supv[h].restartSlot = some n ∧
      s.part.topo.params.ampClass a = .normal ∧ s.part.topo.params.ampClass b = .normal ∧
      s.part.hdec[h].sensorA.damped = false ∧ s.part.hdec[h].sensorB.damped = false ∧ s.part.supv[h].refTimes =
      some (s.part.hdec[h].sensorA.edgeTime, s.part.hdec[h].sensorB.edgeTime) ∧ s.part.slots[n].busy = true ∧
      s.part.slots[n].kind = 3#8 ∧ s.part.slots[n].target.toNat = h.val ∧ g ≠ h) ∧
    (∃ (h : HeadId) (n : SlotId) (a : Amp) (b : Amp) (v : Word) (rest : List Word) (s : State) (m : SlotId),
      s.counting ∧ s.part.ticks.supv = v :: rest ∧ s.part.inTurn v s.part.ticks.slowSupv ∧ s.part.used h = true
      ∧ s.part.hdec[h].phase ≠ .test ∧ s.part.ticks.scanNext ≤ h.val ∧ (∀ g : HeadId, s.part.ticks.scanNext ≤
      g.val → g.val < h.val → s.part.used g = false ∨ s.part.hdec[g].phase = .test) ∧ s.part.supv[h].health =
      .recovering ∧ s.part.supv[h].quiet = 249 ∧ s.part.supv[h].restartSlot = some n ∧
      s.part.topo.params.ampClass a = .normal ∧ s.part.topo.params.ampClass b = .normal ∧
      s.part.hdec[h].sensorA.damped = false ∧ s.part.hdec[h].sensorB.damped = false ∧ s.part.supv[h].refTimes =
      some (s.part.hdec[h].sensorA.edgeTime, s.part.hdec[h].sensorB.edgeTime) ∧ s.part.slots[n].busy = true ∧
      s.part.slots[n].kind = 3#8 ∧ s.part.slots[n].target.toNat = h.val ∧ m ≠ n) ∧
    (∃ (h : HeadId) (a : Amp) (b : Amp) (s : State), s.up ∧ (s.part.supv[h].health ≠ .recovering ∨
      s.part.supv[h].quiet < 249 ∨ s.part.topo.params.ampClass a ≠ .normal ∨ s.part.topo.params.ampClass b ≠
      .normal ∨ s.part.hdec[h].sensorA.damped = true ∨ s.part.hdec[h].sensorB.damped = true ∨
      s.part.supv[h].refTimes ≠ some (s.part.hdec[h].sensorA.edgeTime, s.part.hdec[h].sensorB.edgeTime))) ∧
    (∃ (h : HeadId) (s : State), s.up ∧ h ∈ s.part.sent.recovered ∧ s.part.topo.mode = .running ∧
      s.part.supv[h].health ∈ [.healthy, .marginal, .degraded] ∧ s.part.hdec[h].phase = .off) ∧
    (∃ (h : HeadId) (s : State), s.up ∧ h ∈ s.part.sent.recovered ∧ (s.part.topo.mode ≠ .running ∨
      s.part.supv[h].health ∉ [.healthy, .marginal, .degraded])) ∧
    (∃ (h : HeadId) (s : State), s.up ∧ h ∈ s.part.sent.recovered ∧ (s.part.topo.mode ≠ .running ∨
      s.part.supv[h].health ∉ [.healthy, .marginal, .degraded])) :=
  ⟨⟨1, 2, 600#10, 800#10, 8#32, [], slot (health (ticks (head rail 1 (hd .off false false))
      { Ticks.none with supv := [8#32], scanNext := 1 }) 1
      { fit with health := .recovering, score := 224, quiet := 249, refTimes := some (0#32, 0#32), restartSlot := some 2 })
      2 (busy .waiting 3#8 1#8), by decide +kernel, by decide +kernel, inTurn_nil (by decide +kernel),
      by decide +kernel⟩,
    ⟨1, 2, 600#10, 800#10, 8#32, [], slot (health (ticks (head rail 1 (hd .off false false))
      { Ticks.none with supv := [8#32], scanNext := 1 }) 1
      { fit with health := .recovering, score := 224, quiet := 249, refTimes := some (0#32, 0#32), restartSlot := some 2 })
      2 (busy .waiting 3#8 1#8), 0, by decide +kernel, by decide +kernel, inTurn_nil (by decide +kernel),
      by decide +kernel⟩,
    ⟨1, 2, 600#10, 800#10, 8#32, [], slot (health (ticks (head rail 1 (hd .off false false))
      { Ticks.none with supv := [8#32], scanNext := 1 }) 1
      { fit with health := .recovering, score := 224, quiet := 249, refTimes := some (0#32, 0#32), restartSlot := some 2 })
      2 (busy .waiting 3#8 1#8), 3, by decide +kernel, by decide +kernel, inTurn_nil (by decide +kernel),
      by decide +kernel⟩,
    ⟨1, 599#10, 800#10, slot (health (ticks (head rail 1 (hd .off false false))
      { Ticks.none with supv := [8#32], scanNext := 1 }) 1
      { fit with health := .recovering, score := 224, quiet := 249, refTimes := some (0#32, 0#32), restartSlot := some 2 })
      2 (busy .waiting 3#8 1#8), by decide +kernel⟩,
    ⟨1, sent (head rail 1 (hd .off false false)) { InFlight.none with recovered := [1] }, by decide +kernel⟩,
    ⟨1, sent (health rail 1 { fit with health := .failed, score := 224 })
      { InFlight.none with recovered := [1] }, by decide +kernel⟩,
    ⟨1, sent (mode rail .halted) { InFlight.none with recovered := [1] }, by decide +kernel⟩⟩

theorem witness_SlowTickCountsAndEndsRestarts :
    (∃ (s : State) (v : Word) (rest : List Word), s.up ∧ s.part.ticks.slowSupv = v :: rest ∧ ¬ s.part.slowInTurn
      v) ∧
    (∃ (s : State) (v : Word) (rest : List Word), s.up ∧ s.part.ticks.slowSupv = v :: rest ∧ ¬ s.part.slowInTurn
      v) ∧
    (∃ (s : State) (v : Word) (rest : List Word) (h : HeadId), s.up ∧ s.part.ticks.slowSupv = v :: rest ∧
      (s.part.topo.mode ≠ .running ∨ ¬ s.part.runsOut h)) ∧
    (∃ (s : State) (v : Word) (rest : List Word), s.up ∧ s.part.ticks.slowSupv = v :: rest ∧ s.part.slowInTurn v
      ∧ s.part.topo.mode = .running) ∧
    (∃ (s : State) (v : Word) (rest : List Word), s.up ∧ s.part.ticks.slowSupv = v :: rest ∧ s.part.slowInTurn v
      ∧ s.part.topo.mode ≠ .running) :=
  ⟨⟨clock (ticks rail { Ticks.none with slowSupv := [512#32], supv := [504#32] }) 0#32 512#32 0, 512#32, [],
      by decide +kernel, by decide +kernel, fun x => not_inTurn (u := 504#32) (us := []) (by decide +kernel)
      (by decide +kernel) x.1⟩,
    ⟨clock (ticks rail { Ticks.none with slowSupv := [512#32], supv := [512#32], scanNext := 1 }) 0#32 512#32 0,
      512#32, [], by decide +kernel, by decide +kernel, fun x => x.2.elim (by decide +kernel)
      (by decide +kernel)⟩,
    ⟨ticks (slot (health (rail) 1
      { fit with health := .recovering, score := 224, restartCount := 0, restartSlot := some 2 }) 2 (busy
      .waiting 3#8 1#8)) { Ticks.none with slowSupv := [512#32] }, 512#32, [], 1, by decide +kernel⟩,
    ⟨ticks (slot (health (slot (health (slot (health (rail) 0
      { fit with health := .recovering, score := 224, restartCount := 0, restartSlot := some 5 }) 5 (busy
      .waiting 3#8 0#8)) 2
      { fit with health := .recovering, score := 224, restartCount := 1, restartSlot := some 4 }) 4 (busy
      .waiting 3#8 2#8)) 1
      { fit with health := .recovering, score := 224, restartCount := 1, restartSlot := some 2 }) 2 (busy
      .waiting 3#8 1#8)) { Ticks.none with slowSupv := [512#32] }, 512#32, [], by decide +kernel,
      by decide +kernel, slowInTurn_alone (by decide +kernel), by decide +kernel⟩,
    ⟨ticks State.reset { Ticks.none with slowSupv := [512#32] }, 512#32, [], by decide +kernel,
      by decide +kernel, slowInTurn_alone (by decide +kernel), by decide +kernel⟩⟩

theorem witness_MidStepSampleAskedAndAnswered :
    (∃ (s : State) (h : HeadId) (t0 : Word), s.up ∧ s.part.gen.state = .running ∧ s.part.gen.tickDue = true ∧
      s.part.gen.target = some h ∧ s.part.gen.step = 2 ∧ s.part.gen.stepStart = some t0 ∧ s.part.tbase.ms = t0 +
      BitVec.ofNat 32 (s.part.topo.params.stepTime / 2)) ∧
    (∃ (s : State) (q : SampleAsk) (rest : List SampleAsk), s.up ∧ s.part.topo.mode = .running ∧
      s.part.sent.asks = q :: rest) ∧
    (∃ (s : State) (a : SampleAnswer) (rest : List SampleAnswer), s.up ∧ s.part.sent.answers = a :: rest ∧
      ((a.classA = .damped ∧ a.classB = .damped) ∨ s.part.gen.state ≠ .running ∨ s.part.gen.step ≠ 2 ∨
      s.part.gen.serial ≠ a.serial)) ∧
    (∃ (s : State) (a : SampleAnswer) (rest : List SampleAnswer), s.up ∧ s.part.sent.answers = a :: rest ∧
      ((a.classA = .damped ∧ a.classB = .damped) ∨ s.part.gen.state ≠ .running ∨ s.part.gen.step ≠ 2 ∨
      s.part.gen.serial ≠ a.serial)) ∧
    (∃ (s : State) (a : SampleAnswer) (rest : List SampleAnswer) (h : HeadId) (n : SlotId) (d : Direction), s.up
      ∧ s.part.sent.answers = a :: rest ∧ ¬(a.classA = .damped ∧ a.classB = .damped) ∧ s.part.gen.state =
      .running ∧ s.part.gen.step = 2 ∧ s.part.gen.serial = a.serial ∧ s.part.gen.target = some h ∧
      s.part.gen.slot = some n ∧ s.part.gen.direction = some d ∧ s.part.slots[n].busy = true ∧
      s.part.slots[n].kind = 4#8 ∧ s.part.slots[n].target.toNat = h.val) :=
  ⟨⟨clock (bench { testing 2 with stepStart := some 100#32 }) 105000#32 105#32 0, 1, 100#32, by decide +kernel⟩,
    ⟨sent (bench (testing 2)) { InFlight.none with asks := [{ h := 1, serial := 1 }] }, { h := 1, serial := 1 },
      [], by decide +kernel⟩,
    ⟨sent (bench (testing 2))
      { InFlight.none with answers := [{ classA := .damped, classB := .damped, serial := 1 }] },
      { classA := .damped, classB := .damped, serial := 1 }, [], by decide +kernel⟩,
    ⟨sent (bench (testing 2))
      { InFlight.none with answers := [{ classA := .open_, classB := .damped, serial := 0 }] },
      { classA := .open_, classB := .damped, serial := 0 }, [], by decide +kernel⟩,
    ⟨sent (bench (testing 2))
      { InFlight.none with answers := [{ classA := .open_, classB := .damped, serial := 1 }] },
      { classA := .open_, classB := .damped, serial := 1 }, [], 1, 3, .aToB, by decide +kernel⟩⟩

theorem witness_PatternStartsAndFollowWindowCloses :
    (∃ (s : State) (d : Direction), s.up ∧ s.part.gen.state = .running ∧ s.part.gen.tickDue = true ∧
      s.part.gen.direction = some d ∧ s.part.gen.step = 0) ∧
    (∃ (s : State) (d : Direction) (h : HeadId), s.up ∧ s.part.gen.state = .running ∧ s.part.gen.tickDue = true
      ∧ s.part.gen.direction = some d ∧ s.part.gen.target = some h ∧ 1 ≤ s.part.gen.step ∧ s.part.gen.followOpen
      = true ∧ s.part.gen.stepStart = some (s.part.tbase.ms - 1#32)) ∧
    (∃ (s : State) (d : Direction) (h : HeadId), s.up ∧ s.part.gen.state = .running ∧ s.part.gen.tickDue = true
      ∧ s.part.gen.direction = some d ∧ s.part.gen.target = some h ∧ 1 ≤ s.part.gen.step ∧ s.part.gen.followOpen
      = true ∧ s.part.gen.stepStart = some (s.part.tbase.ms - 1#32)) ∧
    (∃ (g : Generator) (h : HeadId), g.state = .running ∧ g.target = some h) ∧
    (∃ (g : Generator) (h : HeadId), g.target ≠ some h) ∧
    (∃ (g : Generator), g.state = .idle ∨ g.state = .releasing) ∧
    (∃ (g : Generator), g.state = .idle ∨ g.state = .releasing) :=
  ⟨⟨bench (testing 0), .aToB, by decide +kernel⟩,
    ⟨clock (bench { testing 1 with followOpen := true, stepStart := some 100#32 }) 101000#32 101#32 0, .aToB, 1,
      by decide +kernel⟩,
    ⟨(clock (bench { testing 2 with followOpen := true, stepStart := some 100#32 }) 101000#32 101#32 0).withPart
      { (clock (bench { testing 2 with followOpen := true, stepStart := some 100#32 }) 101000#32 101#32 0).part with topo := { rail.part.topo with params := { params with stepTime := 3 } } },
      .aToB, 1, by decide +kernel⟩,
    ⟨testing 2, 1, rfl, rfl⟩,
    ⟨testing 2, 0, by decide⟩,
    ⟨releaseGen, Or.inr rfl⟩,
    ⟨Generator.powerOn 0, Or.inl rfl⟩⟩

theorem witness_EdgeCopyIsJudged :
    (∃ (s : State) (c : EdgeCopy) (rest : List EdgeCopy), s.up ∧ s.part.sent.copies = c :: rest ∧
      s.part.gen.state = .idle) ∧
    (∃ (s : State) (c : EdgeCopy) (rest : List EdgeCopy) (d : Direction), s.counting ∧ s.part.sent.copies = c ::
      rest ∧ s.part.gen.direction = some d ∧ s.part.gen.target ≠ some c.h) ∧
    (∃ (s : State) (c : EdgeCopy) (rest : List EdgeCopy) (d : Direction), s.counting ∧ s.part.sent.copies = c ::
      rest ∧ s.part.gen.direction = some d ∧ s.part.gen.target = some c.h ∧ s.part.gen.state = .running ∧
      (s.part.gen.step, d, c.y, c.d) ∈ [(1, .aToB, .sysA, .rising), (2, .aToB, .sysB, .rising), (3, .aToB,
      .sysA, .falling), (4, .aToB, .sysB, .falling), (1, .bToA, .sysB, .rising), (2, .bToA, .sysA, .rising), (3,
      .bToA, .sysB, .falling), (4, .bToA, .sysA, .falling)] ∧ s.part.gen.followOpen = true ∧ s.part.gen.response
      = false) ∧
    (∃ (s : State) (c : EdgeCopy) (rest : List EdgeCopy) (d : Direction), s.counting ∧ s.part.sent.copies = c ::
      rest ∧ s.part.gen.direction = some d ∧ s.part.gen.target = some c.h ∧ s.part.gen.state = .running ∧
      ((s.part.gen.step, d, c.y, c.d) ∉ [(1, .aToB, .sysA, .rising), (2, .aToB, .sysB, .rising), (3, .aToB,
      .sysA, .falling), (4, .aToB, .sysB, .falling), (1, .bToA, .sysB, .rising), (2, .bToA, .sysA, .rising), (3,
      .bToA, .sysB, .falling), (4, .bToA, .sysA, .falling)] ∨ s.part.gen.followOpen = false ∨
      s.part.gen.response = true)) ∧
    (∃ (s : State) (c : EdgeCopy) (rest : List EdgeCopy) (d : Direction), s.counting ∧ s.part.sent.copies = c ::
      rest ∧ s.part.gen.direction = some d ∧ s.part.gen.target = some c.h ∧ s.part.gen.state = .running ∧
      ((s.part.gen.step, d, c.y, c.d) ∉ [(1, .aToB, .sysA, .rising), (2, .aToB, .sysB, .rising), (3, .aToB,
      .sysA, .falling), (4, .aToB, .sysB, .falling), (1, .bToA, .sysB, .rising), (2, .bToA, .sysA, .rising), (3,
      .bToA, .sysB, .falling), (4, .bToA, .sysA, .falling)] ∨ s.part.gen.followOpen = false ∨
      s.part.gen.response = true)) ∧
    (∃ (s : State) (c : EdgeCopy) (rest : List EdgeCopy) (d : Direction), s.counting ∧ s.part.sent.copies = c ::
      rest ∧ s.part.gen.direction = some d ∧ s.part.gen.target = some c.h ∧ s.part.gen.state = .releasing ∧ c.d
      = .falling ∧ c.y = .sysA ∧ s.part.gen.releaseA = true) ∧
    (∃ (s : State) (c : EdgeCopy) (rest : List EdgeCopy) (d : Direction), s.counting ∧ s.part.sent.copies = c ::
      rest ∧ s.part.gen.direction = some d ∧ s.part.gen.target = some c.h ∧ s.part.gen.state = .releasing ∧ c.d
      = .falling ∧ c.y = .sysB ∧ s.part.gen.releaseB = true) ∧
    (∃ (s : State) (c : EdgeCopy) (rest : List EdgeCopy) (d : Direction), s.counting ∧ s.part.sent.copies = c ::
      rest ∧ s.part.gen.direction = some d ∧ s.part.gen.target = some c.h ∧ s.part.gen.state = .releasing ∧ (c.d
      = .rising ∨ (c.y = .sysA ∧ s.part.gen.releaseA = false) ∨ (c.y = .sysB ∧ s.part.gen.releaseB = false))) :=
  ⟨⟨sent (bench (Generator.powerOn 1)) { InFlight.none with copies := [{ h := 1, y := .sysA, d := .rising }] },
      { h := 1, y := .sysA, d := .rising }, [], by decide +kernel⟩,
    ⟨sent (bench ({ testing 1 with target := some 0 }))
      { InFlight.none with copies := [{ h := 1, y := .sysA, d := .rising }] },
      { h := 1, y := .sysA, d := .rising }, [], .aToB, by decide +kernel⟩,
    ⟨sent (bench ({ testing 1 with followOpen := true }))
      { InFlight.none with copies := [{ h := 1, y := .sysA, d := .rising }] },
      { h := 1, y := .sysA, d := .rising }, [], .aToB, by decide +kernel⟩,
    ⟨sent (bench ({ testing 1 with followOpen := false }))
      { InFlight.none with copies := [{ h := 1, y := .sysA, d := .rising }] },
      { h := 1, y := .sysA, d := .rising }, [], .aToB, by decide +kernel⟩,
    ⟨sent (bench ({ testing 1 with followOpen := true }))
      { InFlight.none with copies := [{ h := 1, y := .sysB, d := .rising }] },
      { h := 1, y := .sysB, d := .rising }, [], .aToB, by decide +kernel⟩,
    ⟨sent (releasing (releaseGen)) { InFlight.none with copies := [{ h := 1, y := .sysA, d := .falling }] },
      { h := 1, y := .sysA, d := .falling }, [], .aToB, by decide +kernel⟩,
    ⟨sent (releasing ({ releaseGen with releaseB := true }))
      { InFlight.none with copies := [{ h := 1, y := .sysB, d := .falling }] },
      { h := 1, y := .sysB, d := .falling }, [], .aToB, by decide +kernel⟩,
    ⟨sent (releasing (releaseGen)) { InFlight.none with copies := [{ h := 1, y := .sysB, d := .falling }] },
      { h := 1, y := .sysB, d := .falling }, [], .aToB, by decide +kernel⟩⟩

theorem witness_StepDeadlineEndsStep :
    (∃ (s : State) (h : HeadId) (n : SlotId) (d : Direction), s.counting ∧ s.part.gen.state = .running ∧
      s.part.gen.tickDue = true ∧ s.part.gen.target = some h ∧ s.part.gen.slot = some n ∧ s.part.gen.direction =
      some d ∧ 1 ≤ s.part.gen.step ∧ s.part.gen.step ≤ 4 ∧ s.part.gen.stepDeadline = some s.part.tbase.ms ∧
      s.part.slots[n].busy = true ∧ s.part.slots[n].kind = 4#8 ∧ s.part.slots[n].target.toNat = h.val ∧
      s.part.gen.response = true ∧ s.part.gen.step < 4) ∧
    (∃ (s : State) (h : HeadId) (n : SlotId) (d : Direction), s.counting ∧ s.part.gen.state = .running ∧
      s.part.gen.tickDue = true ∧ s.part.gen.target = some h ∧ s.part.gen.slot = some n ∧ s.part.gen.direction =
      some d ∧ 1 ≤ s.part.gen.step ∧ s.part.gen.step ≤ 4 ∧ s.part.gen.stepDeadline = some s.part.tbase.ms ∧
      s.part.slots[n].busy = true ∧ s.part.slots[n].kind = 4#8 ∧ s.part.slots[n].target.toNat = h.val ∧
      s.part.gen.response = true ∧ s.part.gen.step = 4 ∧ s.part.gen.outcomes = [(.counted, d)] ∧
      s.part.gen.shadowSeparation = false) ∧
    (∃ (s : State) (h : HeadId) (n : SlotId) (d : Direction) (check : TestCheck), s.counting ∧ s.part.gen.state
      = .running ∧ s.part.gen.tickDue = true ∧ s.part.gen.target = some h ∧ s.part.gen.slot = some n ∧
      s.part.gen.direction = some d ∧ 1 ≤ s.part.gen.step ∧ s.part.gen.step ≤ 4 ∧ s.part.gen.stepDeadline = some
      s.part.tbase.ms ∧ s.part.slots[n].busy = true ∧ s.part.slots[n].kind = 4#8 ∧ s.part.slots[n].target.toNat
      = h.val ∧ ((s.part.gen.response = false ∧ check = .missingResponse) ∨ (s.part.gen.response = true ∧
      s.part.gen.step = 4 ∧ check = .noPassage ∧ (s.part.gen.outcomes ≠ [(.counted, d)] ∨
      s.part.gen.shadowSeparation = true)))) ∧
    (∃ (s : State) (h : HeadId) (n : SlotId) (d : Direction) (check : TestCheck), s.counting ∧ s.part.gen.state
      = .running ∧ s.part.gen.tickDue = true ∧ s.part.gen.target = some h ∧ s.part.gen.slot = some n ∧
      s.part.gen.direction = some d ∧ 1 ≤ s.part.gen.step ∧ s.part.gen.step ≤ 4 ∧ s.part.gen.stepDeadline = some
      s.part.tbase.ms ∧ s.part.slots[n].busy = true ∧ s.part.slots[n].kind = 4#8 ∧ s.part.slots[n].target.toNat
      = h.val ∧ ((s.part.gen.response = false ∧ check = .missingResponse) ∨ (s.part.gen.response = true ∧
      s.part.gen.step = 4 ∧ check = .noPassage ∧ (s.part.gen.outcomes ≠ [(.counted, d)] ∨
      s.part.gen.shadowSeparation = true)))) :=
  ⟨⟨clock (bench { testing 3 with stepDeadline := some 110#32, response := true }) 110000#32 110#32 0, 1, 3,
      .aToB, by decide +kernel⟩,
    ⟨clock (bench
      { testing 4 with stepDeadline := some 110#32, response := true, outcomes := [(.counted, .aToB)] })
      110000#32 110#32 0, 1, 3, .aToB, by decide +kernel⟩,
    ⟨clock (bench { testing 1 with stepDeadline := some 110#32, response := false }) 110000#32 110#32 0, 1, 3,
      .aToB, .missingResponse, by decide +kernel⟩,
    ⟨clock (bench { testing 4 with stepDeadline := some 110#32, response := true, outcomes := [] }) 110000#32
      110#32 0, 1, 3, .aToB, .noPassage, by decide +kernel⟩⟩

theorem witness_ReleaseTimeEndJudgesHead :
    (∃ (s : State) (h : HeadId) (d : Direction), s.counting ∧ s.part.gen.state = .releasing ∧ s.part.gen.tickDue
      = true ∧ s.part.gen.releaseLeft = some 1 ∧ s.part.gen.target = some h ∧ s.part.gen.direction = some d) ∧
    (∃ (s : State) (h : HeadId) (d : Direction), s.counting ∧ s.part.gen.state = .releasing ∧ s.part.gen.tickDue
      = true ∧ s.part.gen.releaseLeft = some 1 ∧ s.part.gen.target = some h ∧ s.part.gen.direction = some d) ∧
    (∃ (g : Generator), g.state = .idle) ∧
    (∃ (g : Generator) (n : Nat), g.state = .releasing ∧ g.releaseLeft = some (n + 2)) ∧
    (∃ (g : Generator), g.state = .releasing ∧ g.releaseLeft = some 1) ∧
    (∃ (g : Generator), g.state = .running) ∧
    (∃ (s : State) (n : Nat), s.up ∧ s.part.gen.tickDue = true ∧ (∀ h : HeadId, ¬ s.part.dwells h) ∧
      s.part.gen.state = .releasing ∧ s.part.gen.releaseLeft = some (n + 2)) ∧
    (∃ (s : State), s.up ∧ s.part.gen.tickDue = true ∧ (∀ h : HeadId, ¬ s.part.dwells h) ∧ s.part.gen.state =
      .releasing ∧ s.part.gen.releaseLeft = some 1) ∧
    (∃ (s : State), s.up ∧ s.part.gen.tickDue = true ∧ (∀ h : HeadId, ¬ s.part.dwells h) ∧ s.part.gen.state =
      .running ∧ s.part.gen.step = 0) ∧
    (∃ (s : State), s.up ∧ s.part.gen.tickDue = true ∧ (∀ h : HeadId, ¬ s.part.dwells h) ∧ s.part.gen.state =
      .running ∧ 1 ≤ s.part.gen.step ∧ s.part.gen.followOpen = true ∧ s.part.gen.stepStart = some
      (s.part.tbase.ms - 1#32)) ∧
    (∃ (s : State), s.up ∧ s.part.gen.tickDue = true ∧ (∀ h : HeadId, ¬ s.part.dwells h) ∧ s.part.gen.state =
      .running ∧ s.part.gen.step = 2 ∧ s.part.gen.stepStart = some (s.part.tbase.ms - BitVec.ofNat 32
      (s.part.topo.params.stepTime / 2))) ∧
    (∃ (s : State), s.up ∧ s.part.gen.tickDue = true ∧ (∀ h : HeadId, ¬ s.part.dwells h) ∧ s.part.gen.state =
      .running ∧ 1 ≤ s.part.gen.step ∧ s.part.gen.stepDeadline = some s.part.tbase.ms ∧ ¬(s.part.gen.followOpen
      = true ∧ s.part.gen.stepStart = some (s.part.tbase.ms - 1#32)) ∧ ¬(s.part.gen.step = 2 ∧
      s.part.gen.stepStart = some (s.part.tbase.ms - BitVec.ofNat 32 (s.part.topo.params.stepTime / 2)))) :=
  ⟨⟨releasing releaseGen, 1, .aToB, by decide +kernel⟩,
    ⟨gen rail releaseGen, 1, .aToB, by decide +kernel⟩,
    ⟨Generator.powerOn 0, rfl⟩,
    ⟨{ releaseGen with releaseLeft := some 5 }, 3, rfl, rfl⟩,
    ⟨releaseGen, rfl, rfl⟩,
    ⟨testing 1, rfl⟩,
    ⟨gen rail ({ releaseGen with releaseLeft := some 2 }), 0, by decide +kernel, by decide +kernel,
      (by intro g; exact not_dwells (by revert g; decide +kernel)), by decide +kernel⟩,
    ⟨gen rail (releaseGen), by decide +kernel, by decide +kernel,
      (by intro g; exact not_dwells (by revert g; decide +kernel)), by decide +kernel⟩,
    ⟨bench (testing 0), by decide +kernel, by decide +kernel,
      (by intro g; exact not_dwells (by revert g; decide +kernel)), by decide +kernel⟩,
    ⟨clock (bench { testing 1 with followOpen := true, stepStart := some 100#32 }) 101000#32 101#32 0,
      by decide +kernel, by decide +kernel, (by intro g; exact not_dwells (by revert g; decide +kernel)),
      by decide +kernel⟩,
    ⟨clock (bench { testing 2 with stepStart := some 100#32 }) 105000#32 105#32 0, by decide +kernel,
      by decide +kernel, (by intro g; exact not_dwells (by revert g; decide +kernel)), by decide +kernel⟩,
    ⟨clock (bench { testing 1 with stepDeadline := some 110#32, response := true }) 110000#32 110#32 0,
      by decide +kernel, by decide +kernel, (by intro g; exact not_dwells (by revert g; decide +kernel)),
      by decide +kernel⟩⟩

theorem witness_ShadowTakesWritesAndCorruption :
    (∃ (i : Place) (lanes : Lanes) (data : Word) (s : State) (j : Nat), s.open_ ∧ s.part.topo.mode =
      .unconfigured ∧ ¬(i = 2047 ∧ lanes = fullLanes ∧ data.extractLsb' 0 16 = 1#16) ∧ Shadow.wf
      s.part.topo.shadow ∧ j ≠ i.val) ∧
    (∃ (s : State), s.open_ ∧ s.counting) ∧
    (∃ (s : State), s.open_ ∧ s.part.topo.mode = .halted) ∧
    (∃ (i : Place) (s : State) (j : Nat), s.up ∧ s.part.topo.mode = .running ∧ Shadow.wf s.part.topo.shadow ∧ j
      ≠ i.val) ∧
    (∃ (s : State), s.up ∧ s.part.topo.mode ≠ .running) :=
  ⟨⟨2047, 0x7#4, 1#32, State.reset, 0, by decide +kernel⟩,
    ⟨rail, by decide +kernel⟩,
    ⟨mode rail .halted, by decide +kernel⟩,
    ⟨0, rail, 2047, by decide +kernel⟩,
    ⟨mode rail .halted, by decide +kernel⟩⟩

theorem witness_CommitAccepted :
    ∃ (check : BitVec 16) (s : State) (m : List (Nat × Word)) (c : Params), s.open_ ∧ s.part.topo.mode =
      .unconfigured ∧ m = Shadow.merge s.part.topo.shadow 2047 fullLanes (commitWord check) ∧ c =
      Params.ofShadow m ∧ judgeCommit m s.path.aps check = (.accepted, 0) :=
  ⟨checkOf shadow, uncommitted shadow, merged shadow, Params.ofShadow (merged shadow), by decide +kernel⟩

theorem witness_CommitRefused :
    (∃ (check : BitVec 16) (s : State) (m : List (Nat × Word)) (c : Params) (r : CommitCode × Nat), s.open_ ∧ m
      = Shadow.merge s.part.topo.shadow 2047 fullLanes (commitWord check) ∧ c = Params.ofShadow m ∧
      s.part.topo.mode = .unconfigured ∧ r = judgeCommit m s.path.aps check ∧ r.1 ≠ .accepted) ∧
    (∃ (check : BitVec 16) (s : State) (m : List (Nat × Word)) (c : Params), s.open_ ∧ m = Shadow.merge
      s.part.topo.shadow 2047 fullLanes (commitWord check) ∧ c = Params.ofShadow m ∧ Shadow.sum m ≠ check) ∧
    (∃ (check : BitVec 16) (s : State) (m : List (Nat × Word)) (c : Params) (j : Nat), s.open_ ∧ m =
      Shadow.merge s.part.topo.shadow 2047 fullLanes (commitWord check) ∧ c = Params.ofShadow m ∧ Shadow.sum m =
      check ∧ c.badWord = some j) ∧
    (∃ (check : BitVec 16) (s : State) (m : List (Nat × Word)) (c : Params), s.open_ ∧ m = Shadow.merge
      s.part.topo.shadow 2047 fullLanes (commitWord check) ∧ c = Params.ofShadow m ∧ Shadow.sum m = check ∧
      c.badWord = none ∧ (c.ringCode < 4 ∨ 10 < c.ringCode ∨ c.ringBase.toNat % (16 * 2 ^ c.ringCode) ≠ 0 ∨
      c.ringBase.toNat / 0x10000 = 0xF0 + s.path.aps.toNat)) ∧
    (∃ (check : BitVec 16) (s : State) (m : List (Nat × Word)) (c : Params), s.open_ ∧ m = Shadow.merge
      s.part.topo.shadow 2047 fullLanes (commitWord check) ∧ c = Params.ofShadow m ∧ Shadow.sum m = check ∧
      c.badWord = none ∧ (c.ringCode < 4 ∨ 10 < c.ringCode ∨ c.ringBase.toNat % (16 * 2 ^ c.ringCode) ≠ 0 ∨
      c.ringBase.toNat / 0x10000 = 0xF0 + s.path.aps.toNat)) ∧
    (∃ (check : BitVec 16) (s : State) (m : List (Nat × Word)) (c : Params) (h : HeadId), s.open_ ∧ m =
      Shadow.merge s.part.topo.shadow 2047 fullLanes (commitWord check) ∧ c = Params.ofShadow m ∧ c.passesToRing
      m s.path.aps check ∧ sidesBad (headEntryWord m h) ∧ (∀ g : HeadId, g < h → ¬ sidesBad (headEntryWord m
      g))) ∧
    (∃ (check : BitVec 16) (s : State) (m : List (Nat × Word)) (c : Params) (h : HeadId), s.open_ ∧ m =
      Shadow.merge s.part.topo.shadow 2047 fullLanes (commitWord check) ∧ c = Params.ofShadow m ∧ c.passesToRing
      m s.path.aps check ∧ (∀ g : HeadId, ¬ sidesBad (headEntryWord m g)) ∧ (∃ i : SectionId, c.names h i ∧
      c.sections[i].inUse = false) ∧ (∀ g : HeadId, g < h → ∀ i : SectionId, c.names g i → c.sections[i].inUse =
      true)) ∧
    (∃ (check : BitVec 16) (s : State) (m : List (Nat × Word)) (c : Params) (i : SectionId), s.open_ ∧ m =
      Shadow.merge s.part.topo.shadow 2047 fullLanes (commitWord check) ∧ c = Params.ofShadow m ∧ c.passesToRing
      m s.path.aps check ∧ (∀ g : HeadId, ¬ sidesBad (headEntryWord m g)) ∧ (∀ (g : HeadId) (i : SectionId),
      c.names g i → c.sections[i].inUse = true) ∧ c.sections[i].inUse = true ∧ c.namingHeads i = 0 ∧ (∀ j :
      SectionId, j < i → c.sections[j].inUse = true → c.namingHeads j ≠ 0)) ∧
    (∃ (check : BitVec 16) (s : State) (m : List (Nat × Word)) (c : Params) (i : SectionId), s.open_ ∧ m =
      Shadow.merge s.part.topo.shadow 2047 fullLanes (commitWord check) ∧ c = Params.ofShadow m ∧ c.passesToRing
      m s.path.aps check ∧ (∀ g : HeadId, ¬ sidesBad (headEntryWord m g)) ∧ (∀ (g : HeadId) (i : SectionId),
      c.names g i → c.sections[i].inUse = true) ∧ (∀ j : SectionId, c.sections[j].inUse = true → c.namingHeads j
      ≠ 0) ∧ 8 < c.namingHeads i ∧ (∀ j : SectionId, j < i → c.namingHeads j ≤ 8)) ∧
    (∃ (check : BitVec 16) (s : State) (m : List (Nat × Word)) (c : Params) (i : SectionId), s.open_ ∧ m =
      Shadow.merge s.part.topo.shadow 2047 fullLanes (commitWord check) ∧ c = Params.ofShadow m ∧ c.passesToRing
      m s.path.aps check ∧ (∀ g : HeadId, ¬ sidesBad (headEntryWord m g)) ∧ (∀ (g : HeadId) (i : SectionId),
      c.names g i → c.sections[i].inUse = true) ∧ (∀ j : SectionId, c.sections[j].inUse = true → c.namingHeads j
      ≠ 0) ∧ (∀ j : SectionId, c.namingHeads j ≤ 8) ∧ (15 < c.sections[i].settle ∨ (c.sections[i].prepared =
      true ∧ c.sections[i].inUse = false)) ∧ (∀ j : SectionId, j < i → c.sections[j].settle ≤ 15 ∧
      (c.sections[j].prepared = true → c.sections[j].inUse = true))) ∧
    (∃ (check : BitVec 16) (s : State) (m : List (Nat × Word)) (c : Params) (i : SectionId), s.open_ ∧ m =
      Shadow.merge s.part.topo.shadow 2047 fullLanes (commitWord check) ∧ c = Params.ofShadow m ∧ c.passesToRing
      m s.path.aps check ∧ (∀ g : HeadId, ¬ sidesBad (headEntryWord m g)) ∧ (∀ (g : HeadId) (i : SectionId),
      c.names g i → c.sections[i].inUse = true) ∧ (∀ j : SectionId, c.sections[j].inUse = true → c.namingHeads j
      ≠ 0) ∧ (∀ j : SectionId, c.namingHeads j ≤ 8) ∧ (15 < c.sections[i].settle ∨ (c.sections[i].prepared =
      true ∧ c.sections[i].inUse = false)) ∧ (∀ j : SectionId, j < i → c.sections[j].settle ≤ 15 ∧
      (c.sections[j].prepared = true → c.sections[j].inUse = true))) ∧
    (∃ (check : BitVec 16) (s : State) (m : List (Nat × Word)) (c : Params), s.open_ ∧ m = Shadow.merge
      s.part.topo.shadow 2047 fullLanes (commitWord check) ∧ c = Params.ofShadow m ∧ c.passesToRing m s.path.aps
      check ∧ (∀ g : HeadId, ¬ sidesBad (headEntryWord m g)) ∧ (∀ (g : HeadId) (i : SectionId), c.names g i →
      c.sections[i].inUse = true) ∧ (∀ j : SectionId, c.sections[j].inUse = true → c.namingHeads j ≠ 0) ∧ (∀ j :
      SectionId, c.namingHeads j ≤ 8) ∧ (∀ j : SectionId, c.sections[j].settle ≤ 15 ∧ (c.sections[j].prepared =
      true → c.sections[j].inUse = true)) ∧ (∀ (h : HeadId) (i : SectionId), ¬ c.names h i)) ∧
    (∃ (check : BitVec 16) (s : State) (m : List (Nat × Word)) (c : Params), s.open_ ∧ m = Shadow.merge
      s.part.topo.shadow 2047 fullLanes (commitWord check) ∧ c = Params.ofShadow m ∧ c.passesToRing m s.path.aps
      check ∧ (∀ g : HeadId, ¬ sidesBad (headEntryWord m g)) ∧ (∀ (g : HeadId) (i : SectionId), c.names g i →
      c.sections[i].inUse = true) ∧ (∀ j : SectionId, c.sections[j].inUse = true → c.namingHeads j ≠ 0) ∧ (∀ j :
      SectionId, c.namingHeads j ≤ 8) ∧ (∀ j : SectionId, c.sections[j].settle ≤ 15 ∧ (c.sections[j].prepared =
      true → c.sections[j].inUse = true)) ∧ (∃ (h : HeadId) (i : SectionId), c.names h i)) ∧
    (∃ (check : BitVec 16) (s : State) (m : List (Nat × Word)) (c : Params), s.open_ ∧ m = Shadow.merge
      s.part.topo.shadow 2047 fullLanes (commitWord check) ∧ c = Params.ofShadow m ∧ s.counting) ∧
    (∃ (check : BitVec 16) (s : State) (m : List (Nat × Word)) (c : Params), s.open_ ∧ m = Shadow.merge
      s.part.topo.shadow 2047 fullLanes (commitWord check) ∧ c = Params.ofShadow m ∧ s.part.topo.mode = .halted) :=
  ⟨⟨checkOf [], uncommitted [], merged [], _, (.badParameter, 0), by decide +kernel, by decide +kernel, rfl,
      by decide +kernel⟩,
    ⟨0#16, uncommitted shadow, Shadow.merge shadow 2047 fullLanes (commitWord 0#16), _, by decide +kernel,
      by decide +kernel, rfl, by decide +kernel⟩,
    ⟨checkOf (shadow.set 4 (4, 0x03200320#32)), uncommitted (shadow.set 4 (4, 0x03200320#32)), merged
      (shadow.set 4 (4, 0x03200320#32)), _, 4, by decide +kernel, by decide +kernel, rfl, by decide +kernel⟩,
    ⟨checkOf (shadow.set 5 (5, 0x04F00000#32)), uncommitted (shadow.set 5 (5, 0x04F00000#32)), merged
      (shadow.set 5 (5, 0x04F00000#32)), _, by decide +kernel, by decide +kernel, rfl, by decide +kernel⟩,
    ⟨checkOf (shadow.set 5 (5, 0x0B000000#32)), uncommitted (shadow.set 5 (5, 0x0B000000#32)), merged
      (shadow.set 5 (5, 0x0B000000#32)), _, by decide +kernel, by decide +kernel, rfl, by decide +kernel⟩,
    ⟨checkOf (shadow.set 7 (64, 0x00001800#32)), uncommitted (shadow.set 7 (64, 0x00001800#32)), merged
      (shadow.set 7 (64, 0x00001800#32)), _, 0, by decide +kernel, by decide +kernel, rfl, by decide +kernel⟩,
    ⟨checkOf (shadow.set 7 (64, 0x000001FF#32)), uncommitted (shadow.set 7 (64, 0x000001FF#32)), merged
      (shadow.set 7 (64, 0x000001FF#32)), _, 0, by decide +kernel, by decide +kernel, rfl, by decide +kernel⟩,
    ⟨checkOf (shadow ++ [(129, 1#32)]), uncommitted (shadow ++ [(129, 1#32)]), merged (shadow ++ [(129, 1#32)]),
      _, 1, by decide +kernel, by decide +kernel, rfl, by decide +kernel⟩,
    ⟨checkOf crowded, uncommitted crowded, merged crowded, _, 0, by decide +kernel, by decide +kernel, rfl,
      by decide +kernel⟩,
    ⟨checkOf (shadow ++ [(129, 2#32)]), uncommitted (shadow ++ [(129, 2#32)]), merged (shadow ++ [(129, 2#32)]),
      _, 1, by decide +kernel, by decide +kernel, rfl, by decide +kernel⟩,
    ⟨checkOf (shadow.set 39 (128, 0x00001001#32)), uncommitted (shadow.set 39 (128, 0x00001001#32)), merged
      (shadow.set 39 (128, 0x00001001#32)), _, 0, by decide +kernel, by decide +kernel, rfl, by decide +kernel⟩,
    ⟨checkOf (shadow.set 7 (64, 0x0000FFFF#32) |>.take 39), uncommitted (shadow.set 7 (64, 0x0000FFFF#32)
      |>.take 39), merged (shadow.set 7 (64, 0x0000FFFF#32) |>.take 39), _, by decide +kernel,
      by decide +kernel, rfl, by decide +kernel⟩,
    ⟨checkOf shadow, uncommitted shadow, merged shadow, _, by decide +kernel, by decide +kernel, rfl,
      by decide +kernel⟩,
    ⟨0#16, rail, Shadow.merge [] 2047 fullLanes (commitWord 0#16), _, by decide +kernel, by decide +kernel, rfl,
      by decide +kernel⟩,
    ⟨0#16, mode rail .halted, Shadow.merge [] 2047 fullLanes (commitWord 0#16), _, by decide +kernel,
      by decide +kernel, rfl, by decide +kernel⟩⟩

theorem witness_TopologyWordsGiveParameters :
    (∃ (m : List (Nat × Word)) (c : Params) (g : Nat → Nat), c = Params.ofShadow m ∧ g = (fun j => (Shadow.word
      m j).toNat)) ∧
    (∃ (c : Params) (t0 : Prop) (t1 : Prop) (t2 : Prop) (t3 : Prop) (t4 : Prop), (t0 ↔ 10 ≤ c.minSep ∧ c.minSep
      ≤ 255 ∧ 20 ≤ c.minPulse ∧ c.minPulse ≤ 1000) ∧ (t1 ↔ 1 ≤ c.dwellLimit ∧ c.dwellLimit ≤ 255 ∧ 1 ≤
      c.restartLimit ∧ c.restartLimit ≤ 255 ∧ 2 ≤ c.stepTime ∧ c.stepTime ≤ 30) ∧ (t2 ↔ c.openMax < c.dampedLow)
      ∧ (t3 ↔ c.dampedLow ≤ c.dampedHigh ∧ c.dampedHigh < c.normalLow) ∧ (t4 ↔ c.normalLow ≤ c.normalHigh ∧
      c.normalHigh < c.shortMin) ∧ ¬t0) ∧
    (∃ (c : Params) (t0 : Prop) (t1 : Prop) (t2 : Prop) (t3 : Prop) (t4 : Prop), (t0 ↔ 10 ≤ c.minSep ∧ c.minSep
      ≤ 255 ∧ 20 ≤ c.minPulse ∧ c.minPulse ≤ 1000) ∧ (t1 ↔ 1 ≤ c.dwellLimit ∧ c.dwellLimit ≤ 255 ∧ 1 ≤
      c.restartLimit ∧ c.restartLimit ≤ 255 ∧ 2 ≤ c.stepTime ∧ c.stepTime ≤ 30) ∧ (t2 ↔ c.openMax < c.dampedLow)
      ∧ (t3 ↔ c.dampedLow ≤ c.dampedHigh ∧ c.dampedHigh < c.normalLow) ∧ (t4 ↔ c.normalLow ≤ c.normalHigh ∧
      c.normalHigh < c.shortMin) ∧ t0 ∧ ¬t1) ∧
    (∃ (c : Params) (t0 : Prop) (t1 : Prop) (t2 : Prop) (t3 : Prop) (t4 : Prop), (t0 ↔ 10 ≤ c.minSep ∧ c.minSep
      ≤ 255 ∧ 20 ≤ c.minPulse ∧ c.minPulse ≤ 1000) ∧ (t1 ↔ 1 ≤ c.dwellLimit ∧ c.dwellLimit ≤ 255 ∧ 1 ≤
      c.restartLimit ∧ c.restartLimit ≤ 255 ∧ 2 ≤ c.stepTime ∧ c.stepTime ≤ 30) ∧ (t2 ↔ c.openMax < c.dampedLow)
      ∧ (t3 ↔ c.dampedLow ≤ c.dampedHigh ∧ c.dampedHigh < c.normalLow) ∧ (t4 ↔ c.normalLow ≤ c.normalHigh ∧
      c.normalHigh < c.shortMin) ∧ t0 ∧ t1 ∧ ¬t2) ∧
    (∃ (c : Params) (t0 : Prop) (t1 : Prop) (t2 : Prop) (t3 : Prop) (t4 : Prop), (t0 ↔ 10 ≤ c.minSep ∧ c.minSep
      ≤ 255 ∧ 20 ≤ c.minPulse ∧ c.minPulse ≤ 1000) ∧ (t1 ↔ 1 ≤ c.dwellLimit ∧ c.dwellLimit ≤ 255 ∧ 1 ≤
      c.restartLimit ∧ c.restartLimit ≤ 255 ∧ 2 ≤ c.stepTime ∧ c.stepTime ≤ 30) ∧ (t2 ↔ c.openMax < c.dampedLow)
      ∧ (t3 ↔ c.dampedLow ≤ c.dampedHigh ∧ c.dampedHigh < c.normalLow) ∧ (t4 ↔ c.normalLow ≤ c.normalHigh ∧
      c.normalHigh < c.shortMin) ∧ t0 ∧ t1 ∧ t2 ∧ ¬t3) ∧
    (∃ (c : Params) (t0 : Prop) (t1 : Prop) (t2 : Prop) (t3 : Prop) (t4 : Prop), (t0 ↔ 10 ≤ c.minSep ∧ c.minSep
      ≤ 255 ∧ 20 ≤ c.minPulse ∧ c.minPulse ≤ 1000) ∧ (t1 ↔ 1 ≤ c.dwellLimit ∧ c.dwellLimit ≤ 255 ∧ 1 ≤
      c.restartLimit ∧ c.restartLimit ≤ 255 ∧ 2 ≤ c.stepTime ∧ c.stepTime ≤ 30) ∧ (t2 ↔ c.openMax < c.dampedLow)
      ∧ (t3 ↔ c.dampedLow ≤ c.dampedHigh ∧ c.dampedHigh < c.normalLow) ∧ (t4 ↔ c.normalLow ≤ c.normalHigh ∧
      c.normalHigh < c.shortMin) ∧ t0 ∧ t1 ∧ t2 ∧ t3 ∧ ¬t4) ∧
    (∃ (c : Params) (t0 : Prop) (t1 : Prop) (t2 : Prop) (t3 : Prop) (t4 : Prop), (t0 ↔ 10 ≤ c.minSep ∧ c.minSep
      ≤ 255 ∧ 20 ≤ c.minPulse ∧ c.minPulse ≤ 1000) ∧ (t1 ↔ 1 ≤ c.dwellLimit ∧ c.dwellLimit ≤ 255 ∧ 1 ≤
      c.restartLimit ∧ c.restartLimit ≤ 255 ∧ 2 ≤ c.stepTime ∧ c.stepTime ≤ 30) ∧ (t2 ↔ c.openMax < c.dampedLow)
      ∧ (t3 ↔ c.dampedLow ≤ c.dampedHigh ∧ c.dampedHigh < c.normalLow) ∧ (t4 ↔ c.normalLow ≤ c.normalHigh ∧
      c.normalHigh < c.shortMin) ∧ t0 ∧ t1 ∧ t2 ∧ t3 ∧ t4) :=
  ⟨⟨shadow, _, _, rfl, rfl⟩,
    ⟨{ params with minSep := 9 }, False, True, True, True, True, by decide⟩,
    ⟨{ params with stepTime := 31 }, True, False, True, True, True, by decide⟩,
    ⟨{ params with openMax := 200 }, True, True, False, True, True, by decide⟩,
    ⟨{ params with normalLow := 400 }, True, True, True, False, True, by decide⟩,
    ⟨{ params with shortMin := 800 }, True, True, True, True, False, by decide⟩,
    ⟨params, True, True, True, True, True, by decide⟩⟩

theorem witness_RecheckHalts :
    (∃ (s : State) (v : Word) (rest : List Word), s.up ∧ s.part.ticks.slowTopo = v :: rest ∧ (s.part.topo.mode ≠
      .running ∨ Shadow.sum s.part.topo.shadow = s.part.topo.check)) ∧
    (∃ (s : State) (v : Word) (rest : List Word), s.up ∧ s.part.ticks.slowTopo = v :: rest ∧ s.part.topo.mode =
      .running ∧ Shadow.sum s.part.topo.shadow ≠ s.part.topo.check) ∧
    (∃ (s : State) (v : Word) (rest : List Word), s.up ∧ s.part.ticks.slowTopo = v :: rest ∧ s.part.topo.mode =
      .running ∧ Shadow.sum s.part.topo.shadow ≠ s.part.topo.check) :=
  ⟨⟨ticks rail { Ticks.none with slowTopo := [512#32] }, 512#32, [], by decide +kernel⟩,
    ⟨mismatch rail, 512#32, [], by decide +kernel⟩,
    ⟨halting, 512#32, [], by decide +kernel⟩⟩

theorem witness_KeptWriteNeverReachesMemory :
    (∃ (a : WordAddr) (s : State) (k : ViolationKind), s.open_ ∧ ((k = .statusWrite ∧ apertureBase s.path.aps ≤
      4 * a.toNat ∧ 4 * a.toNat < apertureBase s.path.aps + 0x1000) ∨ (k = .ringWrite ∧ (4 * a.toNat <
      apertureBase s.path.aps ∨ apertureBase s.path.aps + 0x10000 ≤ 4 * a.toNat) ∧ ∃ r : RingRegion,
      s.part.topo.ring = some r ∧ r.base ≤ 4 * a.toNat ∧ 4 * a.toNat < r.base + r.size)) ∧ s.counting) ∧
    (∃ (a : WordAddr) (s : State) (k : ViolationKind), s.open_ ∧ ((k = .statusWrite ∧ apertureBase s.path.aps ≤
      4 * a.toNat ∧ 4 * a.toNat < apertureBase s.path.aps + 0x1000) ∨ (k = .ringWrite ∧ (4 * a.toNat <
      apertureBase s.path.aps ∨ apertureBase s.path.aps + 0x10000 ≤ 4 * a.toNat) ∧ ∃ r : RingRegion,
      s.part.topo.ring = some r ∧ r.base ≤ 4 * a.toNat ∧ 4 * a.toNat < r.base + r.size)) ∧ s.counting) ∧
    (∃ (a : WordAddr) (s : State) (k : ViolationKind), s.open_ ∧ ((k = .statusWrite ∧ apertureBase s.path.aps ≤
      4 * a.toNat ∧ 4 * a.toNat < apertureBase s.path.aps + 0x1000) ∨ (k = .ringWrite ∧ (4 * a.toNat <
      apertureBase s.path.aps ∨ apertureBase s.path.aps + 0x10000 ≤ 4 * a.toNat) ∧ ∃ r : RingRegion,
      s.part.topo.ring = some r ∧ r.base ≤ 4 * a.toNat ∧ 4 * a.toNat < r.base + r.size)) ∧ s.part.topo.mode ≠
      .running) :=
  ⟨⟨0x3C03FF#22, rail, .statusWrite, by decide +kernel, Or.inl ⟨rfl, by decide +kernel, by decide +kernel⟩,
      by decide +kernel⟩,
    ⟨0x00203F#22, rail, .ringWrite, by decide +kernel, Or.inr ⟨rfl, Or.inl (by decide +kernel), _, rfl,
      by decide +kernel, by decide +kernel⟩, by decide +kernel⟩,
    ⟨0x3C0000#22, State.reset, .statusWrite, by decide +kernel, Or.inl ⟨rfl, by decide +kernel,
      by decide +kernel⟩, by decide +kernel⟩⟩

theorem witness_StatusReadIsAnsweredLive :
    (∃ (off : Nat) (s : State), s.open_ ∧ off < 0x1000 ∧ off % 4 = 0 ∧ ((0x018 ≤ off ∧ off ≤ 0x0FC) ∨ (0x160 ≤
      off ∧ off ≤ 0x1FC) ∨ (0x280 ≤ off ∧ off ≤ 0x2FC) ∨ (0x320 ≤ off ∧ off ≤ 0xFFC))) ∧
    (∃ (off : Nat) (s : State), s.open_ ∧ off < 0x1000 ∧ off % 4 = 0) ∧
    (∃ (off : Nat) (s : State) (i : SectionId), s.open_ ∧ off < 0x1000 ∧ off % 4 = 0 ∧ s.part.scnt[i].count ≤
      1023) ∧
    (∃ (off : Nat) (s : State) (h : HeadId), s.open_ ∧ off < 0x1000 ∧ off % 4 = 0 ∧ s.part.supv[h].score ≤ 255) :=
  ⟨⟨0xFFC, rail, by decide +kernel⟩,
    ⟨0x100, rail, by decide +kernel⟩,
    ⟨0x100, sec rail 0 (sr .occupied 1023 bound0), 0, by decide +kernel⟩,
    ⟨0, health rail 1 { fit with health := .failed, score := 255 }, 1, by decide +kernel⟩⟩

theorem witness_PortGrantFollowsWaitCount :
    (∃ (s : State) (w : Option JournalWord) (r : JRecord) (rest : List JRecord), s.up ∧ w = s.part.jrnl.offered
      s.part.topo.params.ringBase ∧ s.part.jrnl.queue = r :: rest ∧ s.part.jrnl.writing = some .w1) ∧
    (∃ (s : State) (w : Option JournalWord) (r : JRecord) (rest : List JRecord), s.up ∧ w = s.part.jrnl.offered
      s.part.topo.params.ringBase ∧ s.part.jrnl.queue = r :: rest ∧ s.part.jrnl.writing = some .w0) ∧
    (∃ (s : State) (w : Option JournalWord) (r : JRecord) (rest : List JRecord), s.up ∧ w = s.part.jrnl.offered
      s.part.topo.params.ringBase ∧ s.part.jrnl.queue = r :: rest ∧ s.part.jrnl.writing = some .w2) ∧
    (∃ (s : State) (w : Option JournalWord) (r : JRecord) (rest : List JRecord), s.up ∧ w = s.part.jrnl.offered
      s.part.topo.params.ringBase ∧ s.part.jrnl.queue = r :: rest ∧ s.part.jrnl.writing = some .w3) ∧
    (∃ (s : State) (w : Option JournalWord) (r : JRecord) (rest : List JRecord), s.up ∧ w = s.part.jrnl.offered
      s.part.topo.params.ringBase ∧ s.part.jrnl.queue = r :: rest ∧ s.part.jrnl.writing = none) ∧
    (∃ (s : State) (w : Option JournalWord), s.up ∧ w = s.part.jrnl.offered s.part.topo.params.ringBase ∧
      (s.path.jword.isSome = true ∨ s.path.flight.any Flight.holds = true)) ∧
    (∃ (s : State) (w : Option JournalWord), s.up ∧ w = s.part.jrnl.offered s.part.topo.params.ringBase ∧
      s.path.jword = none ∧ s.path.flight = none ∧ w = none) ∧
    (∃ (s : State) (w : Option JournalWord) (f : Flight), s.up ∧ w = s.part.jrnl.offered
      s.part.topo.params.ringBase ∧ s.path.jword = none ∧ s.path.flight = some f ∧ f.holds = false ∧ w = none) ∧
    (∃ (s : State) (w : Option JournalWord) (x : JournalWord), s.up ∧ w = s.part.jrnl.offered
      s.part.topo.params.ringBase ∧ s.path.jword = none ∧ s.path.flight = none ∧ w = some x) ∧
    (∃ (s : State) (w : Option JournalWord) (first : Claimant) (f : Flight) (x : JournalWord) (a : State) (b :
      State), s.up ∧ w = s.part.jrnl.offered s.part.topo.params.ringBase ∧ s.path.jword = none ∧ s.path.flight =
      some f ∧ f.holds = false ∧ w = some x ∧ a =
      { s with path := { s.path with flight := some { f with holds := true }, accessWaited := false, wordWaited := false } }
      ∧ b =
      { s with path := { s.path with jword := some x, waitCount := 0, accessWaited := false, wordWaited := false } }
      ∧ s.path.wordWaited = true ∧ (s.path.accessWaited = true ∨ first = .access) ∧ s.path.waitCount < 16) ∧
    (∃ (s : State) (w : Option JournalWord) (first : Claimant) (f : Flight) (x : JournalWord) (a : State) (b :
      State), s.up ∧ w = s.part.jrnl.offered s.part.topo.params.ringBase ∧ s.path.jword = none ∧ s.path.flight =
      some f ∧ f.holds = false ∧ w = some x ∧ a =
      { s with path := { s.path with flight := some { f with holds := true }, accessWaited := false, wordWaited := false } }
      ∧ b =
      { s with path := { s.path with jword := some x, waitCount := 0, accessWaited := false, wordWaited := false } }
      ∧ s.path.wordWaited = true ∧ (s.path.accessWaited = true ∨ first = .access) ∧ s.path.waitCount < 16) ∧
    (∃ (s : State) (w : Option JournalWord) (first : Claimant) (f : Flight) (x : JournalWord) (a : State) (b :
      State), s.up ∧ w = s.part.jrnl.offered s.part.topo.params.ringBase ∧ s.path.jword = none ∧ s.path.flight =
      some f ∧ f.holds = false ∧ w = some x ∧ a =
      { s with path := { s.path with flight := some { f with holds := true }, accessWaited := false, wordWaited := false } }
      ∧ b =
      { s with path := { s.path with jword := some x, waitCount := 0, accessWaited := false, wordWaited := false } }
      ∧ s.path.wordWaited = true ∧ (s.path.accessWaited = true ∨ first = .access) ∧ 16 ≤ s.path.waitCount) ∧
    (∃ (s : State) (w : Option JournalWord) (first : Claimant) (f : Flight) (x : JournalWord) (a : State) (b :
      State), s.up ∧ w = s.part.jrnl.offered s.part.topo.params.ringBase ∧ s.path.jword = none ∧ s.path.flight =
      some f ∧ f.holds = false ∧ w = some x ∧ a =
      { s with path := { s.path with flight := some { f with holds := true }, accessWaited := false, wordWaited := false } }
      ∧ b =
      { s with path := { s.path with jword := some x, waitCount := 0, accessWaited := false, wordWaited := false } }
      ∧ s.path.wordWaited = true ∧ s.path.accessWaited = false ∧ first = .word) ∧
    (∃ (s : State) (w : Option JournalWord) (f : Flight) (x : JournalWord) (a : State) (b : State), s.up ∧ w =
      s.part.jrnl.offered s.part.topo.params.ringBase ∧ s.path.jword = none ∧ s.path.flight = some f ∧ f.holds =
      false ∧ w = some x ∧ a =
      { s with path := { s.path with flight := some { f with holds := true }, accessWaited := false, wordWaited := false } }
      ∧ b =
      { s with path := { s.path with jword := some x, waitCount := 0, accessWaited := false, wordWaited := false } }
      ∧ s.path.wordWaited = false ∧ s.path.accessWaited = true) ∧
    (∃ (s : State) (w : Option JournalWord) (first : Claimant) (f : Flight) (x : JournalWord) (a : State) (b :
      State), s.up ∧ w = s.part.jrnl.offered s.part.topo.params.ringBase ∧ s.path.jword = none ∧ s.path.flight =
      some f ∧ f.holds = false ∧ w = some x ∧ a =
      { s with path := { s.path with flight := some { f with holds := true }, accessWaited := false, wordWaited := false } }
      ∧ b =
      { s with path := { s.path with jword := some x, waitCount := 0, accessWaited := false, wordWaited := false } }
      ∧ s.path.wordWaited = false ∧ s.path.accessWaited = false ∧ first = .access) ∧
    (∃ (s : State) (w : Option JournalWord) (first : Claimant) (f : Flight) (x : JournalWord) (a : State) (b :
      State), s.up ∧ w = s.part.jrnl.offered s.part.topo.params.ringBase ∧ s.path.jword = none ∧ s.path.flight =
      some f ∧ f.holds = false ∧ w = some x ∧ a =
      { s with path := { s.path with flight := some { f with holds := true }, accessWaited := false, wordWaited := false } }
      ∧ b =
      { s with path := { s.path with jword := some x, waitCount := 0, accessWaited := false, wordWaited := false } }
      ∧ s.path.wordWaited = false ∧ s.path.accessWaited = false ∧ first = .word) ∧
    (∃ (s : State) (w : Option JournalWord) (a : Access), s.up ∧ w = s.part.jrnl.offered
      s.part.topo.params.ringBase ∧ s.path.cpurst = false ∧ s.path.flight = none ∧ ((a.write = false ∧ (4 *
      a.addr.toNat < apertureBase s.path.aps ∨ apertureBase s.path.aps + 0x1000 ≤ 4 * a.addr.toNat)) ∨ (a.write
      = true ∧ ((apertureBase s.path.aps + 0x4000 ≤ 4 * a.addr.toNat ∧ 4 * a.addr.toNat < apertureBase
      s.path.aps + 0x10000) ∨ ((4 * a.addr.toNat < apertureBase s.path.aps ∨ apertureBase s.path.aps + 0x10000 ≤
      4 * a.addr.toNat) ∧ ∀ r : RingRegion, s.part.topo.ring = some r → 4 * a.addr.toNat < r.base ∨ r.base +
      r.size ≤ 4 * a.addr.toNat))))) ∧
    (∃ (s : State) (w : Option JournalWord) (a : Access), s.up ∧ w = s.part.jrnl.offered
      s.part.topo.params.ringBase ∧ s.path.cpurst = false ∧ s.path.flight = none ∧ ((a.write = false ∧ (4 *
      a.addr.toNat < apertureBase s.path.aps ∨ apertureBase s.path.aps + 0x1000 ≤ 4 * a.addr.toNat)) ∨ (a.write
      = true ∧ ((apertureBase s.path.aps + 0x4000 ≤ 4 * a.addr.toNat ∧ 4 * a.addr.toNat < apertureBase
      s.path.aps + 0x10000) ∨ ((4 * a.addr.toNat < apertureBase s.path.aps ∨ apertureBase s.path.aps + 0x10000 ≤
      4 * a.addr.toNat) ∧ ∀ r : RingRegion, s.part.topo.ring = some r → 4 * a.addr.toNat < r.base ∨ r.base +
      r.size ≤ 4 * a.addr.toNat))))) ∧
    (∃ (s : State) (w : Option JournalWord) (a : Access), s.up ∧ w = s.part.jrnl.offered
      s.part.topo.params.ringBase ∧ s.path.cpurst = false ∧ s.path.flight = none ∧ ((a.write = false ∧ (4 *
      a.addr.toNat < apertureBase s.path.aps ∨ apertureBase s.path.aps + 0x1000 ≤ 4 * a.addr.toNat)) ∨ (a.write
      = true ∧ ((apertureBase s.path.aps + 0x4000 ≤ 4 * a.addr.toNat ∧ 4 * a.addr.toNat < apertureBase
      s.path.aps + 0x10000) ∨ ((4 * a.addr.toNat < apertureBase s.path.aps ∨ apertureBase s.path.aps + 0x10000 ≤
      4 * a.addr.toNat) ∧ ∀ r : RingRegion, s.part.topo.ring = some r → 4 * a.addr.toNat < r.base ∨ r.base +
      r.size ≤ 4 * a.addr.toNat))))) ∧
    (∃ (s : State) (w : Option JournalWord), s.up ∧ w = s.part.jrnl.offered s.part.topo.params.ringBase ∧
      s.path.cpurst = false ∧ s.path.flight.isSome = true ∧ s.path.waiting = none) ∧
    (∃ (s : State) (w : Option JournalWord) (a : Access), s.up ∧ w = s.part.jrnl.offered
      s.part.topo.params.ringBase ∧ s.path.cpurst = false ∧ s.path.flight.isSome = true ∧ s.path.waiting = none
      ∧ a.write = true) ∧
    (∃ (s : State) (w : Option JournalWord), s.up ∧ w = s.part.jrnl.offered s.part.topo.params.ringBase ∧
      s.path.cpurst = false ∧ s.path.flight.isSome = true ∧ s.path.waiting.isSome = true) ∧
    (∃ (s : State) (w : Option JournalWord), s.up ∧ w = s.part.jrnl.offered s.part.topo.params.ringBase ∧
      s.path.cpurst = true) :=
  ⟨⟨jrnl rail
      { Journal.powerOn with active := true, queue := [entry (.gap 1) 0#16], nextSeq := 1#16, writing := some .w1 },
      some { addr := 0x008004#24, data := 0#32 }, entry (.gap 1) 0#16, [], by decide +kernel⟩,
    ⟨jrnl rail
      { Journal.powerOn with active := true, queue := [entry (.gap 1) 0#16], nextSeq := 1#16, writing := some .w0 },
      some { addr := 0x008000#24, data := 0x000A0000#32 }, entry (.gap 1) 0#16, [], by decide +kernel⟩,
    ⟨jrnl rail
      { Journal.powerOn with active := true, queue := [entry (.gap 1) 0#16], nextSeq := 1#16, writing := some .w2 },
      some { addr := 0x008008#24, data := 1#32 }, entry (.gap 1) 0#16, [], by decide +kernel⟩,
    ⟨jrnl rail
      { Journal.powerOn with active := true, queue := [entry (.gap 1) 0#16], nextSeq := 1#16, writing := some .w3 },
      some { addr := 0x00800C#24, data := 0#32 }, entry (.gap 1) 0#16, [], by decide +kernel⟩,
    ⟨jrnl rail
      { Journal.powerOn with active := true, queue := [entry (.gap 1) 0#16], nextSeq := 1#16, writing := none },
      none, entry (.gap 1) 0#16, [], by decide +kernel⟩,
    ⟨path rail { rail.path with flight := some (flight true) }, none, by decide +kernel⟩,
    ⟨rail, none, by decide +kernel⟩,
    ⟨path rail { rail.path with flight := some (flight false) }, none, flight false, by decide +kernel⟩,
    ⟨jrnl rail
      { Journal.powerOn with active := true, queue := [entry (.gap 1) 0#16], nextSeq := 1#16, writing := some .w1 },
      some { addr := 0x008004#24, data := 0#32 }, { addr := 0x008004#24, data := 0#32 }, by decide +kernel⟩,
    ⟨path (jrnl rail
      { Journal.powerOn with active := true, queue := [entry (.gap 1) 0#16], nextSeq := 1#16, writing := some .w1 })
      { rail.path with flight := some (flight false), waitCount := 15, accessWaited := true, wordWaited := true },
      some { addr := 0x008004#24, data := 0#32 }, .word, flight false, { addr := 0x008004#24, data := 0#32 }, _,
      _, by decide +kernel, by decide +kernel, by decide +kernel, by decide +kernel, by decide +kernel,
      by decide +kernel, rfl, rfl, by decide +kernel⟩,
    ⟨path (jrnl rail
      { Journal.powerOn with active := true, queue := [entry (.gap 1) 0#16], nextSeq := 1#16, writing := some .w1 })
      { rail.path with flight := some (flight false), waitCount := 15, accessWaited := false, wordWaited := true },
      some { addr := 0x008004#24, data := 0#32 }, .access, flight false, { addr := 0x008004#24, data := 0#32 },
      _, _, by decide +kernel, by decide +kernel, by decide +kernel, by decide +kernel, by decide +kernel,
      by decide +kernel, rfl, rfl, by decide +kernel⟩,
    ⟨path (jrnl rail
      { Journal.powerOn with active := true, queue := [entry (.gap 1) 0#16], nextSeq := 1#16, writing := some .w1 })
      { rail.path with flight := some (flight false), waitCount := 16, accessWaited := true, wordWaited := true },
      some { addr := 0x008004#24, data := 0#32 }, .access, flight false, { addr := 0x008004#24, data := 0#32 },
      _, _, by decide +kernel, by decide +kernel, by decide +kernel, by decide +kernel, by decide +kernel,
      by decide +kernel, rfl, rfl, by decide +kernel⟩,
    ⟨path (jrnl rail
      { Journal.powerOn with active := true, queue := [entry (.gap 1) 0#16], nextSeq := 1#16, writing := some .w1 })
      { rail.path with flight := some (flight false), waitCount := 0, accessWaited := false, wordWaited := true },
      some { addr := 0x008004#24, data := 0#32 }, .word, flight false, { addr := 0x008004#24, data := 0#32 }, _,
      _, by decide +kernel, by decide +kernel, by decide +kernel, by decide +kernel, by decide +kernel,
      by decide +kernel, rfl, rfl, by decide +kernel⟩,
    ⟨path (jrnl rail
      { Journal.powerOn with active := true, queue := [entry (.gap 1) 0#16], nextSeq := 1#16, writing := some .w1 })
      { rail.path with flight := some (flight false), waitCount := 0, accessWaited := true, wordWaited := false },
      some { addr := 0x008004#24, data := 0#32 }, flight false, { addr := 0x008004#24, data := 0#32 }, _, _,
      by decide +kernel, by decide +kernel, by decide +kernel, by decide +kernel, by decide +kernel,
      by decide +kernel, rfl, rfl, by decide +kernel⟩,
    ⟨path (jrnl rail
      { Journal.powerOn with active := true, queue := [entry (.gap 1) 0#16], nextSeq := 1#16, writing := some .w1 })
      { rail.path with flight := some (flight false), waitCount := 0, accessWaited := false, wordWaited := false },
      some { addr := 0x008004#24, data := 0#32 }, .access, flight false, { addr := 0x008004#24, data := 0#32 },
      _, _, by decide +kernel, by decide +kernel, by decide +kernel, by decide +kernel, by decide +kernel,
      by decide +kernel, rfl, rfl, by decide +kernel⟩,
    ⟨path (jrnl rail
      { Journal.powerOn with active := true, queue := [entry (.gap 1) 0#16], nextSeq := 1#16, writing := some .w1 })
      { rail.path with flight := some (flight false), waitCount := 0, accessWaited := false, wordWaited := false },
      some { addr := 0x008004#24, data := 0#32 }, .word, flight false, { addr := 0x008004#24, data := 0#32 }, _,
      _, by decide +kernel, by decide +kernel, by decide +kernel, by decide +kernel, by decide +kernel,
      by decide +kernel, rfl, rfl, by decide +kernel⟩,
    ⟨rail, none, { addr := 0x3C0400#22, write := false, lanes := 0xF#4, data := 0#32 }, by decide +kernel,
      by decide +kernel, by decide +kernel, by decide +kernel, Or.inl (by decide +kernel)⟩,
    ⟨rail, none, { addr := 0x3C1000#22, write := true, lanes := 0xF#4, data := 0#32 }, by decide +kernel,
      by decide +kernel, by decide +kernel, by decide +kernel, Or.inr ⟨rfl, Or.inl (by decide +kernel)⟩⟩,
    ⟨rail, none, { addr := 0x002040#22, write := true, lanes := 0xF#4, data := 0#32 }, by decide +kernel,
      by decide +kernel, by decide +kernel, by decide +kernel, Or.inr ⟨rfl, Or.inr ⟨by decide +kernel,
      (by intro r e; cases e; decide)⟩⟩⟩,
    ⟨path rail { rail.path with flight := some (flight true) }, none, by decide +kernel⟩,
    ⟨path rail { rail.path with flight := some (flight true) }, none,
      { addr := 0x3C0000#22, write := true, lanes := 0xF#4, data := 0#32 }, by decide +kernel⟩,
    ⟨path rail { rail.path with flight := some (flight true), waiting := some (flight true).access }, none,
      by decide +kernel⟩,
    ⟨path rail (Path.powerOn 0#4 true), none, by decide +kernel⟩⟩

theorem witness_RecordWordLayouts :
    (∃ (k : Nat), k ≤ 15) ∧
    (∃ (n : Nat), n ≤ 65535) ∧
    (∃ (n : Nat), n ≤ 1023) ∧
    (∃ (n : Nat), n ≤ 255) ∧
    (∃ (step : Option Nat), step.getD 0 ≤ 4) :=
  ⟨⟨15, by decide⟩,
    ⟨65535, by decide⟩,
    ⟨1023, by decide⟩,
    ⟨255, by decide⟩,
    ⟨some 4, by decide⟩⟩

theorem witness_MemoryAccessCompletes :
    (∃ (s : State), s.up ∧ s.path.flight.any Flight.holds = false) ∧
    (∃ (s : State) (f : Flight), s.up ∧ s.path.flight = some f ∧ f.holds = true ∧ s.path.waiting = none) ∧
    (∃ (s : State) (f : Flight) (a : Access) (u : State), s.up ∧ s.path.flight = some f ∧ f.holds = true ∧
      s.path.waiting = some a ∧ s.path.cpurst = false ∧ exec .memoryAccessComplete
      { s with path := { s.path with waiting := none } } = .next u) :=
  ⟨⟨rail, by decide +kernel⟩,
    ⟨path rail { rail.path with flight := some (flight true) }, flight true, by decide +kernel⟩,
    ⟨path rail { rail.path with flight := some (flight true), waiting := some (flight false).access }, flight
      true, (flight false).access, _, rfl, rfl, rfl, rfl, rfl, rfl⟩⟩

theorem witness_RecordReachesRing :
    (∃ (s : State) (k : Nat), s.up ∧ k = s.part.topo.params.ringCode ∧ s.part.jrnl.active = true ∧
      s.part.jrnl.writing = none ∧ s.part.jrnl.queue ≠ [] ∧ 0 < s.part.jrnl.space k) ∧
    (∃ (s : State) (k : Nat) (w : JournalWord) (ix : RecordWordIx) (nx : RecordWordIx), s.up ∧ k =
      s.part.topo.params.ringCode ∧ s.path.jword = some w ∧ s.part.jrnl.writing = some ix ∧ (ix, nx) ∈ [(.w1,
      .w2), (.w2, .w3), (.w3, .w0)]) ∧
    (∃ (s : State) (k : Nat) (w : JournalWord) (r : JRecord) (rest : List JRecord), s.up ∧ k =
      s.part.topo.params.ringCode ∧ s.path.jword = some w ∧ s.part.jrnl.writing = some .w0 ∧ s.part.jrnl.queue =
      r :: rest) ∧
    (∃ (s : State) (k : Nat) (w : JournalWord) (r : JRecord) (rest : List JRecord), s.up ∧ k =
      s.part.topo.params.ringCode ∧ s.path.jword = some w ∧ s.part.jrnl.writing = some .w0 ∧ s.part.jrnl.queue =
      r :: rest) :=
  ⟨⟨jrnl rail
      { Journal.powerOn with active := true, queue := [entry (.gap 1) 0#16], nextSeq := 1#16, producer := 1, consumer := 3 },
      4, by decide +kernel⟩,
    ⟨path (jrnl rail
      { Journal.powerOn with active := true, queue := [entry (.gap 1) 0#16], nextSeq := 1#16, writing := some .w3 })
      { rail.path with jword := some { addr := 0x008004#24, data := 0#32 } }, 4,
      { addr := 0x008004#24, data := 0#32 }, .w3, .w0, by decide +kernel⟩,
    ⟨path (jrnl rail
      { Journal.powerOn with active := true, queue := [entry (.gap 1) 0#16], nextSeq := 1#16, writing := some .w0, halt := .pending 7#16 2 })
      { rail.path with jword := some { addr := 0x008004#24, data := 0#32 } }, 4,
      { addr := 0x008004#24, data := 0#32 }, entry (.gap 1) 0#16, [], by decide +kernel⟩,
    ⟨mode (path (jrnl rail
      { Journal.powerOn with active := true, queue := [entry (.halt 7#16 2) 0#16], nextSeq := 1#16, writing := some .w0 })
      { rail.path with jword := some { addr := 0x008004#24, data := 0#32 } }) .halted, 4,
      { addr := 0x008004#24, data := 0#32 }, entry (.halt 7#16 2) 0#16, [], by decide +kernel⟩⟩

theorem witness_JournalTakesRecords :
    (∃ (j : Journal), 16 ≤ j.queue.length) ∧
    (∃ (j : Journal), j.queue.length < 16 ∧ j.dropped = 0) ∧
    (∃ (j : Journal), j.queue.length < 15 ∧ j.dropped ≠ 0) ∧
    (∃ (j : Journal), j.queue.length = 15 ∧ j.dropped ≠ 0) :=
  ⟨⟨{ Journal.powerOn with active := true, queue := List.replicate 16 (entry (.gap 1) 0#16), dropped := 65535 },
      by decide⟩,
    ⟨{ Journal.powerOn with active := true, queue := List.replicate 15 (entry (.gap 1) 0#16), dropped := 0 }, by
      decide⟩,
    ⟨{ Journal.powerOn with active := true, queue := List.replicate 14 (entry (.gap 1) 0#16), dropped := 1 }, by
      decide⟩,
    ⟨{ Journal.powerOn with active := true, queue := List.replicate 15 (entry (.gap 1) 0#16), dropped := 1 }, by
      decide⟩⟩

theorem witness_PowerOnReset :
    (∃ (s : State), s.up) ∧
    (∃ (s : State) (c : Instr), s.path.porst = true ∧ c ∉ [.porstAssert, .cpurstAssert, .cpurstRelease] ∧ (∀ aps
      la lb, c ≠ .porstRelease aps la lb)) ∧
    (∃ (s : State), s.path.porst = true) :=
  ⟨⟨path rail { rail.path with flight := some (flight true) }, by decide +kernel⟩,
    ⟨path rail { Path.powerOn 0#4 false with porst := true }, .msTick, by decide +kernel, by decide,
      by intro _ _ _ h; cases h⟩,
    ⟨path rail { Path.powerOn 0#4 false with porst := true }, by decide +kernel⟩⟩

theorem witness_ProcessorReset :
    (∃ (s : State), s.up ∧ s.path.cpurst = false) ∧
    (∃ (s : State) (c : Instr), s.up ∧ s.path.cpurst = true ∧ ((∃ n t o k, c ∈ [.sweepReset n t o k,
      .preparedReset n t o k, .headRestart n t o k, .headTest n t o k, .cancel n t o k]) ∨ (∃ n v t o k, c =
      .commandNotAKind n v t o k) ∨ (∃ n l w, c ∈ [.partialCommand n l w, .parameterWordWrite n l w]) ∨ (∃ v, c
      = .consumerWrite v) ∨ (∃ i l w, c = .topologyWrite i l w) ∨ (∃ v, c = .commit v) ∨ (∃ a l w, c =
      .keptWrite a l w))) ∧
    (∃ (s : State), s.up) :=
  ⟨⟨rail, by decide +kernel⟩,
    ⟨path rail (Path.powerOn 0#4 true), .commit 0#16, by decide +kernel, by decide +kernel, Or.inr (Or.inr
      (Or.inr (Or.inr (Or.inr (Or.inl ⟨_, rfl⟩)))))⟩,
    ⟨rail, by decide +kernel⟩⟩

/-! ### The invariants hold of the station, and it steps -/

theorem rail_heads : HeadsOk rail.part := by
  have a : ∀ h : HeadId,
      rail.part.hdec[h].phase.levels rail.part.hdec[h].sensorA.damped rail.part.hdec[h].sensorB.damped = true ∧
      (rail.part.hdec[h].phase ≠ .off →
        rail.part.running = true ∧ rail.part.used h = true ∧ rail.part.supv[h].health.inService = true) ∧
      rail.part.hdec[h].dwellStart.isSome = rail.part.hdec[h].phase.isDwell ∧
      (rail.part.hdec[h].standing = true → rail.part.hdec[h].phase.isDwell = true) ∧
      rail.part.hdec[h].shadowPhase.isSome = decide (rail.part.hdec[h].phase = .test) ∧
      rail.part.hdec[h].shadowPhase = none ∧ rail.part.hdec[h].phase ≠ .test := by decide +kernel
  refine ⟨fun h => ?_, by decide +kernel, by decide +kernel, by decide +kernel, fun _ => ⟨rfl, rfl⟩, fun e => by cases e⟩
  obtain ⟨a1, a2, a3, a4, a5, a6, a7⟩ := a h
  exact ⟨a1, a2, a3, a4, a5, (fun ph (e : _ = some ph) => by rw [a6] at e; cases e), fun e => absurd e a7⟩

theorem rail_sections : SectionsOk rail.part := by
  have a : ∀ i : SectionId, (rail.part.scnt[i].state = .clear ∨ rail.part.scnt[i].state = .unused) ∧
      rail.part.scnt[i].count = 0 ∧ rail.part.scnt[i].cause = none ∧ rail.part.scnt[i].moved = false ∧
      rail.part.scnt[i].slot = none := by decide +kernel
  intro i
  obtain ⟨e | e, r⟩ := a i <;> · unfold SectionRec.fits; rw [e]; exact r

theorem rail_health : HealthOk rail.part := by
  have a : ∀ h : HeadId, (rail.part.supv[h].health = .unused ∨ rail.part.supv[h].health = .healthy) ∧
      rail.part.supv[h].score = 0 ∧ rail.part.supv[h].quiet = 0 ∧ rail.part.supv[h].restartCount = 0 ∧
      rail.part.supv[h].refTimes = none ∧ rail.part.supv[h].restartSlot = none := by decide +kernel
  intro h
  obtain ⟨e | e, c, q, r⟩ := a h <;> · unfold HeadHealth.agrees; rw [e, c]; exact ⟨by decide, by rw [q]; decide, fun _ => ⟨q, r⟩⟩

theorem rail_stores : StoresOk rail := by unfold StoresOk TopologyOk; decide +kernel

theorem rail_slots : SlotsOk rail.part := by
  have a : ∀ n : SlotId, rail.part.slots[n].busy = false := by decide +kernel
  have b : ∀ i : SectionId, rail.part.scnt[i].slot = none := by decide +kernel
  have c : ∀ h : HeadId, rail.part.supv[h].restartSlot = none := by decide +kernel
  refine ⟨fun _ => ⟨a, rfl⟩, fun _ => ⟨fun i n e => ?_, fun h n e => ?_, fun n e => ?_, fun n e => ?_⟩⟩
  · rw [b i] at e; cases e
  · rw [c h] at e; cases e
  · cases e
  · rw [a n] at e; cases e

/-- The station with one command in the queue. -/
def waiting : State := { rail with pending := [.cpurstRelease] }

theorem witness_HeadsInvariant : ∃ s t : State,
    (s.path.porst = false → HeadsOk s.part) ∧ step s = .next t ∧ t.path.porst = false :=
  ⟨waiting, _, fun _ => rail_heads, rfl, rfl⟩

theorem witness_SectionsInvariant : ∃ s t : State, SectionsOk s.part ∧ step s = .next t :=
  ⟨waiting, _, rail_sections, rfl⟩

theorem witness_NoProofBesideFailedHead : ∃ s t : State, ProofOk s.part ∧ step s = .next t :=
  ⟨waiting, _, by unfold ProofOk; decide +kernel, rfl⟩

theorem witness_HealthInvariant : ∃ s t : State, HealthOk s.part ∧ step s = .next t :=
  ⟨waiting, _, rail_health, rfl⟩

theorem witness_StoresInvariant : ∃ s t : State, StoresOk s ∧ step s = .next t :=
  ⟨waiting, _, rail_stores, rfl⟩

theorem witness_SlotsInvariant : ∃ s t : State,
    StoresOk s ∧ (s.path.porst = false → SlotsOk s.part) ∧ step s = .next t ∧ t.path.porst = false :=
  ⟨waiting, _, rail_stores, fun _ => rail_slots, rfl, rfl⟩

theorem witness_TimeInvariant : ∃ s t : State, TimeOk s.part ∧ step s = .next t :=
  ⟨waiting, _, ⟨by decide, by decide, by simp [waiting, rail, State.reset, Part.powerOn, Ticks.none],
    by simp [waiting, rail, State.reset, Part.powerOn, Ticks.none],
    by simp [waiting, rail, State.reset, Part.powerOn, Ticks.none],
    by simp [waiting, rail, State.reset, Part.powerOn, Ticks.none]⟩, rfl⟩

theorem witness_JournalAndPortInvariant : ∃ s t : State, JournalOk s.part ∧ PortOk s ∧ step s = .next t :=
  ⟨waiting, _, by unfold JournalOk Journal.seqsRise; decide +kernel, ⟨fun w e => (by cases e), by decide⟩, rfl⟩

/-! ### Single steps from the worked sequences -/

/-- The state after a command. -/
def after (c : Instr) (s : State) : State :=
  match exec c s with
  | .next t => t
  | .fault _ => s
  | .refused _ => s

/-- 1.3: a rising edge of A at period 10 takes H1 from IDLE to ARR_A, one microsecond on. -/
theorem test_edge_leaves_idle :
    (after (.edge 1 .sysA .rising 10) rail).part.hdec[1].phase = .arrA ∧
      (after (.edge 1 .sysA .rising 10) rail).part.tbase.us = 1#32 ∧
      (after (.edge 1 .sysA .rising 10) rail).part.sent.scnt = [.movement 1] := by decide +kernel

/-- 11.5, second row: the axle that leaves a section in SWEEP_WAIT breaks the sweep; two SECTION records, then the
REQUEST record. -/
def broken : State :=
  after (.passageEvent 1 .bToA)
    (sent (slot (sec rail 1 { sr .sweepWait 0 bound1 with slot := some 1 }) 1 (busy .waiting 1#8 1#8))
      { InFlight.none with scnt := [.passage 1 .bToA] })

theorem test_passage_breaks_sweep :
    broken.part.scnt[0].state = .occupied ∧ broken.part.scnt[0].count = 1 ∧
      broken.part.scnt[1].state = .disturbed ∧ broken.part.scnt[1].cause = some .underflow ∧
      broken.part.scnt[1].moved = false ∧ broken.part.slots[1].result = some .sweepBroken ∧
      broken.part.jrnl.queue.map JRecord.detail =
        [.section_ 0 .clear .occupied 1 none, .section_ 1 .sweepWait .disturbed 0 (some .underflow),
          .request 1 1#8 1#8 0x11#8 .sweepBroken] := by decide +kernel

/-- 11.6: an edge of the system that step 1 does not drive aborts the test; the records in their order. -/
def aborted : State :=
  after .edgeCopy
    (sent (bench { testing 1 with followOpen := true, expectA := true })
      { InFlight.none with copies := [{ h := 1, y := .sysB, d := .rising }] })

theorem test_copy_aborts_test :
    aborted.part.gen.state = .idle ∧ aborted.part.scnt[0].cause = some .testAbort ∧
      aborted.part.scnt[1].moved = false ∧ aborted.part.slots[3].result = some .testAbort ∧
      aborted.part.jrnl.queue.map JRecord.detail =
        [.test 1 .aToB .abort (some 1) (some .unexpectedEdge), .section_ 0 .clear .disturbed 0 (some .testAbort),
          .section_ 1 .clear .disturbed 0 (some .testAbort), .request 3 4#8 1#8 0x11#8 .testAbort] := by
  decide +kernel

/-- 11.7: the ring's space before and after the consumer word is written. -/
theorem test_ring_space :
    ({ Journal.powerOn with producer := 2, consumer := 3 } : Journal).space 4 = 0 ∧
      ({ Journal.powerOn with producer := 2, consumer := 2 } : Journal).space 4 = 15 ∧
      ({ Journal.powerOn with producer := 4, consumer := 2 } : Journal).space 4 = 13 := by decide

/-- 11.7: with two places free and five records dropped, a GAP record goes first. -/
theorem test_gap_goes_first :
    ((({ Journal.powerOn with
          queue := List.replicate 14 (entry (.gap 1) 0#16), dropped := 5, nextSeq := 531#16 } : Journal).queueRecord 0#32
        (.standing 1 false)).queue.drop 14).map (fun r => (r.detail, r.seq)) =
      [(.gap 5, 531#16), (.standing 1 false, 532#16)] := by decide

/-- 11.2: a section word, a head word, a slot result word and w2 of a SECTION record, field by field. -/
theorem test_words :
    sectionWord { sr .sweeping 2 [] with slot := some 1, changes := 5#8 } = 0x05002903#32 ∧
      headWord { hd .unsettled true false with standing := true } { fit with health := .degraded, score := 112 } =
        0x00700397#32 ∧
      slotWord { busy .failed 4#8 26#8 with token := 0x40#8, result := some .testAbort } = 0x401A0484#32 ∧
      (Detail.section_ 12 .sweepWait .disturbed 0 (some .underflow)).word2 = 0x0201020C#32 := by decide

/-- 6.3: a shadow that passes the nine checks starts the part; one with a section no head names is refused. -/
theorem test_commit_starts :
    (after (.commit (checkOf shadow)) (uncommitted shadow)).part.topo.mode = .running ∧
      (after (.commit (checkOf shadow)) (uncommitted shadow)).part.jrnl.queue.map JRecord.detail =
        [.start (checkOf shadow) 4] := by decide +kernel

theorem test_commit_section_without_head :
    judgeCommit (merged (shadow ++ [(129, 1#32)])) 0#4 (checkOf (shadow ++ [(129, 1#32)])) =
      (.sectionWithoutHead, 1) := by decide +kernel

/-- 7.5: a byte write of the ring is kept in RUNNING, with its address and the kind RING_WRITE. -/
theorem test_ring_write_kept :
    (after (.keptWrite 0x002000#22 0x1#4 0xFF#32) rail).part.jrnl.queue.map JRecord.detail =
        [.violation 0x008000#24 .ringWrite] ∧
      (after (.keptWrite 0x002000#22 0x1#4 0xFF#32) rail).mem = [] := by decide +kernel

/-- 7.2: a write of lanes 0 and 2 that completes leaves those two bytes in memory. -/
theorem test_write_reaches_memory :
    (after .memoryAccessComplete (path rail { rail.path with flight := some (flight true) })).mem =
      [(0x400, 0x44#8), (0x402, 0x22#8)] := by decide +kernel

/-- 9.3: the completion of w3 leaves the word in memory and offers w0. -/
theorem test_journal_word_completes :
    (after .journalWordComplete
        (path (jrnl rail
            { Journal.powerOn with active := true, queue := [entry (.gap 1) 0#16], nextSeq := 1#16, writing := some .w3 })
          { rail.path with jword := some { addr := 0x00800C#24, data := 0x01020304#32 } })).mem =
      [(0x800C, 0x04#8), (0x800D, 0x03#8), (0x800E, 0x02#8), (0x800F, 0x01#8)] := by decide +kernel

/-- 7.4: a refused command puts a write and a record at a free port in one update; either may be first, and then the
other finds the port in use: the wait count stays 0 (R134). -/
def met : State := after (.sweepReset 0 5#8 0x11#8 0xEE#8) rail

theorem test_free_port_takes_either :
    ((after (.portGrant ⟨none, .access⟩) met).path.flight.any Flight.holds = true ∧
        (after (.portGrant ⟨none, .access⟩) met).path.jword = none ∧
        (after (.portGrant ⟨none, .access⟩) met).path.waitCount = 0) ∧
      (after (.portGrant ⟨none, .word⟩) met).path.flight.any Flight.holds = false ∧
      ((after (.portGrant ⟨none, .word⟩) met).path.jword.map JournalWord.addr = some 0x008004#24 ∧
        (after (.portGrant ⟨none, .word⟩) met).path.waitCount = 0) := by decide +kernel

/-- 7.4: with both waiting as a journal word completes, the arbiter counts (R133). -/
theorem test_waiting_claimants_are_counted :
    (after (.portGrant ⟨none, .word⟩)
        (after .journalWordComplete (after (.portGrant ⟨none, .word⟩) met))).path.waitCount = 1 := by decide +kernel

/-- 5.4: with a step time of 3 one tick closes the follow window and asks for the sample, in one update (R98). -/
def short : State :=
  let s := clock (bench { testing 2 with followOpen := true, stepStart := some 100#32 }) 101000#32 101#32 0
  s.withPart { s.part with topo := { s.part.topo with params := { params with stepTime := 3 } } }

theorem test_one_tick_closes_and_asks :
    (after .followWindowClose short).part.gen.followOpen = false ∧
      (after .followWindowClose short).part.sent.asks = [{ h := 1, serial := 1 }] ∧
      (after .followWindowClose short).part.gen.tickDue = false ∧
      after .midStepSample short = after .followWindowClose short := by decide +kernel

/-- 4.3, 4.5: a glitch and a failed test are reported, the glitch fails H1, and its recovery completes before SUPV takes
the other report: that report is discarded and clears report pending. -/
def failing : State :=
  after (.glitchReport 1)
    (gen (health (sent rail { InFlight.none with supv := [.testFailed 1, .glitch 1, .glitch 2] }) 1
      { fit with health := .degraded, score := 220 }) { Generator.powerOn 1 with reportPending := true })

theorem test_report_of_before_the_failure_is_discarded :
    failing.part.supv[1].health = .failed ∧ failing.part.sent.stale = [.testFailed 1] ∧
      failing.part.sent.supv = [.glitch 2] ∧
      (after (.testFailedReport 1) (health failing 1 fit)).part.supv[1] = fit ∧
      (after (.testFailedReport 1) (health failing 1 fit)).part.gen.reportPending = false ∧
      (after (.testFailedReport 1) (health failing 1 fit)).part.sent.stale = [] := by decide +kernel

/-- 10.2: SUPV takes a supervision tick given at 504 before the slow tick given at 512 (R166). -/
def behind : State :=
  clock (ticks rail { Ticks.none with slowSupv := [512#32], supv := [504#32, 512#32] }) 512000#32 512#32 0

theorem test_ticks_taken_in_order :
    after (.slowTick .supv) behind = behind ∧
      (after (.supervisionTick 0 700#10 700#10) behind).part.ticks.scanNext = 1 ∧
      (after (.slowTick .supv) (ticks behind { Ticks.none with slowSupv := [512#32], supv := [512#32] })).part.ticks.slowSupv
        = [] := by decide +kernel

/-- 10.2, 4.2: a supervision tick and a slow tick of the same ms: SUPV takes the slow tick before the pass or after
it, and not between two heads. -/
theorem test_no_slow_tick_inside_a_pass :
    let together := ticks behind { Ticks.none with slowSupv := [512#32], supv := [512#32] }
    (after (.slowTick .supv) together).part.ticks.slowSupv = [] ∧
      (after (.supervisionTick 0 700#10 700#10) together).part.inPass = true ∧
      after (.slowTick .supv) (after (.supervisionTick 0 700#10 700#10) together) =
        after (.supervisionTick 0 700#10 700#10) together := by decide +kernel

/-- 6.5, 9.6: the REQUEST records of the slots that HALTED ends stand in ascending slot number before the HALT record;
a GAP record takes the first of the two places left, so that the second REQUEST record and the HALT record find the
queue full: one is dropped and counted, the other is held pending with that count. -/
theorem test_halt_ends_slots :
    (after (.slowTick .topo) halting).part.slots[2].result = some .halted ∧
      (after (.slowTick .topo) halting).part.slots[5].result = some .halted ∧
      ((after (.slowTick .topo) halting).part.jrnl.queue.drop 14).map JRecord.detail =
        [.gap 4, .request 2 1#8 0#8 0x11#8 .halted] ∧
      (after (.slowTick .topo) halting).part.jrnl.halt = .pending (Shadow.sum [(2046, 1#32)]) 1 ∧
      (after (.slowTick .topo) halting).part.jrnl.dropped = 0 := by decide +kernel

/-- 10.4: nothing happens while PORST is asserted, and the release gives the power-on values. -/
theorem test_power_on :
    (after (.porstRelease 5#4 1#32 2#32) (after .porstAssert rail)).path.aps = 5#4 ∧
      (after (.porstRelease 5#4 1#32 2#32) (after .porstAssert rail)).part.topo.mode = .unconfigured ∧
      (after (.porstRelease 5#4 1#32 2#32) (after .porstAssert rail)).part.hdec[0].sensorA.damped = true ∧
      (after (.porstRelease 5#4 1#32 2#32) (after .porstAssert rail)).part.hdec[1].sensorB.damped = true := by
  decide +kernel

end Sys2Proof.Tests
end

/-! SUPPORT. What an enter and a leave make of a section, one rule for each kind of row of the two tables (R34, R35),
and the tables themselves. -/

namespace Sys2Proof.Machine

open Sys2Proof

/-! ### The states a passage treats alike -/

/-- The section holds a count (R29): the states whose rows in both tables go by the count. -/
def SectionRec.holdsCount (x : SectionRec) : Prop := x.state = .occupied ∨ x.state = .sweeping

/-- The section is in proof and holds count 0 (R29): a leave has nothing to take away. -/
def SectionRec.holdsNone (x : SectionRec) : Prop :=
  x.state = .clear ∨ x.state = .settling ∨ x.state = .sweepWait

section
variable {x : SectionRec}

theorem SectionRec.holdsCount_of_occupied (h : x.state = .occupied) : x.holdsCount := .inl h
theorem SectionRec.holdsCount_of_sweeping (h : x.state = .sweeping) : x.holdsCount := .inr h
theorem SectionRec.holdsNone_of_clear (h : x.state = .clear) : x.holdsNone := .inl h
theorem SectionRec.holdsNone_of_settling (h : x.state = .settling) : x.holdsNone := .inr (.inl h)
theorem SectionRec.holdsNone_of_sweepWait (h : x.state = .sweepWait) : x.holdsNone := .inr (.inr h)

/-! ### An enter (R34) -/

theorem SectionRec.enter_of_clear (h : x.state = .clear) :
    x.enter = { x with state := .occupied, count := 1 } := by
  simp only [SectionRec.enter, h]

/-- Where a count is held, the bound alone decides between one more and OVERFLOW. -/
theorem SectionRec.enter_of_holdsCount (h : x.holdsCount) :
    x.enter = if x.count < maxCount then { x with count := x.count + 1 } else x.disturb .overflow false := by
  obtain h | h := h <;> simp only [SectionRec.enter, h]

theorem SectionRec.enter_of_lt_maxCount (h : x.holdsCount) (hc : x.count < maxCount) :
    x.enter = { x with count := x.count + 1 } := by
  rw [enter_of_holdsCount h, if_pos hc]

theorem SectionRec.enter_of_maxCount_le (h : x.holdsCount) (hc : maxCount ≤ x.count) :
    x.enter = x.disturb .overflow false := by
  rw [enter_of_holdsCount h, if_neg (Nat.not_lt.mpr hc)]

theorem SectionRec.enter_of_settling_without_slot (h : x.state = .settling) (hs : x.slot = none) :
    x.enter = { x with state := .occupied, count := 1 } := by
  simp [SectionRec.enter, h, hs]

theorem SectionRec.enter_of_settling_with_slot (h : x.state = .settling) (hs : x.slot ≠ none) :
    x.enter = { x with state := .sweeping, count := 1 } := by
  simp [SectionRec.enter, h, Option.isSome_iff_ne_none.mpr hs]

theorem SectionRec.enter_of_sweepWait (h : x.state = .sweepWait) :
    x.enter = { x with state := .sweeping, count := 1 } := by
  simp only [SectionRec.enter, h]

theorem SectionRec.enter_of_disturbed (h : x.state = .disturbed) : x.enter = { x with moved := true } := by
  simp only [SectionRec.enter, h]

/-! ### A leave (R35) -/

variable {code : Nat}

theorem SectionRec.leave_of_holdsNone (h : x.holdsNone) : x.leave code = x.disturb .underflow false := by
  obtain h | h | h := h <;> simp only [SectionRec.leave, h]

/-- Where a count is held, the count alone decides between one less and the settle wait. -/
theorem SectionRec.leave_of_holdsCount (h : x.holdsCount) :
    x.leave code =
      if 1 < x.count then { x with count := x.count - 1 }
      else { x with state := .settling, count := 0, remaining := code } := by
  obtain h | h := h <;> simp only [SectionRec.leave, h]

theorem SectionRec.leave_of_one_lt (h : x.holdsCount) (hc : 1 < x.count) :
    x.leave code = { x with count := x.count - 1 } := by
  rw [leave_of_holdsCount h, if_pos hc]

theorem SectionRec.leave_of_le_one (h : x.holdsCount) (hc : x.count ≤ 1) :
    x.leave code = { x with state := .settling, count := 0, remaining := code } := by
  rw [leave_of_holdsCount h, if_neg (Nat.not_lt.mpr hc)]

theorem SectionRec.leave_of_disturbed (h : x.state = .disturbed) :
    x.leave code = { x with moved := true } := by
  simp only [SectionRec.leave, h]

end

/-! ### The tables -/

open SectionRec in
/-- Settles O11: each row of the enter table, then each row of the leave table, is the rule of its state and bound. -/
theorem enterAndLeaveTables : Obligations.EnterAndLeaveTables := by
  intro x code
  refine ⟨enter_of_clear, ?occupiedBelow, ?occupiedFull, enter_of_settling_without_slot, enter_of_settling_with_slot,
    enter_of_sweepWait, ?sweepingBelow, ?sweepingFull, enter_of_disturbed, ?leaveClear, ?leaveOccupied,
    ?leaveOccupiedLast, ?leaveSettling, ?leaveSweepWait, ?leaveSweeping, ?leaveSweepingLast, leave_of_disturbed⟩
  case occupiedBelow => exact fun h hc => enter_of_lt_maxCount (holdsCount_of_occupied h) (Nat.lt_succ_of_le hc)
  case occupiedFull => exact fun h hc => enter_of_maxCount_le (holdsCount_of_occupied h) hc.ge
  case sweepingBelow => exact fun h hc => enter_of_lt_maxCount (holdsCount_of_sweeping h) (Nat.lt_succ_of_le hc)
  case sweepingFull => exact fun h hc => enter_of_maxCount_le (holdsCount_of_sweeping h) hc.ge
  case leaveClear => exact fun h => leave_of_holdsNone (holdsNone_of_clear h)
  case leaveOccupied => exact fun h hc => leave_of_one_lt (holdsCount_of_occupied h) hc
  case leaveOccupiedLast => exact fun h hc => leave_of_le_one (holdsCount_of_occupied h) hc.le
  case leaveSettling => exact fun h => leave_of_holdsNone (holdsNone_of_settling h)
  case leaveSweepWait => exact fun h => leave_of_holdsNone (holdsNone_of_sweepWait h)
  case leaveSweeping => exact fun h hc => leave_of_one_lt (holdsCount_of_sweeping h) hc
  case leaveSweepingLast => exact fun h hc => leave_of_le_one (holdsCount_of_sweeping h) hc.le

end Sys2Proof.Machine

/-! SUPPORT. The bands of the five classes of a sample (R69): every sample lies in a band, and with the thresholds
in the committed order the band decides the class. -/

namespace Sys2Proof.Machine

open Sys2Proof

/-- The thresholds stand in the order that the commit validation asks for (R69). -/
structure Params.ThresholdsOrdered (c : Params) : Prop where
  open_lt_damped : c.openMax < c.dampedLow
  damped_band : c.dampedLow ≤ c.dampedHigh
  damped_lt_normal : c.dampedHigh < c.normalLow
  normal_band : c.normalLow ≤ c.normalHigh
  normal_lt_short : c.normalHigh < c.shortMin

/-- A sample value lies between two of the four named ranges (R69). -/
def Params.betweenRanges (c : Params) (v : Nat) : Prop :=
  (c.openMax < v ∧ v < c.dampedLow) ∨ (c.dampedHigh < v ∧ v < c.normalLow) ∨ (c.normalHigh < v ∧ v < c.shortMin)

/-- The sample values of a class, as the rows of R69's table give them. -/
def Params.band (c : Params) (v : Nat) : AmpClass → Prop
  | .open_ => v ≤ c.openMax
  | .damped => c.dampedLow ≤ v ∧ v ≤ c.dampedHigh
  | .normal => c.normalLow ≤ v ∧ v ≤ c.normalHigh
  | .short => c.shortMin ≤ v
  | .indeterminate => c.betweenRanges v

section
variable {c : Params} {a : Amp}

/-! ### Each band decides the class -/

theorem Params.ampClass_of_le_openMax (h : a.toNat ≤ c.openMax) : c.ampClass a = .open_ := if_pos h

theorem Params.ampClass_of_dampedRange (o : c.ThresholdsOrdered) (low : c.dampedLow ≤ a.toNat)
    (high : a.toNat ≤ c.dampedHigh) : c.ampClass a = .damped := by
  have notOpen : ¬ a.toNat ≤ c.openMax := Nat.not_le.mpr (o.open_lt_damped.trans_le low)
  simp only [Params.ampClass, if_neg notOpen, if_pos (And.intro low high)]

/-- Above the damped range, the first two tests fail. -/
theorem Params.ampClass_of_dampedHigh_lt (o : c.ThresholdsOrdered) (h : c.dampedHigh < a.toNat) :
    c.ampClass a =
      if c.normalLow ≤ a.toNat ∧ a.toNat ≤ c.normalHigh then .normal
      else if c.shortMin ≤ a.toNat then .short else .indeterminate := by
  have notOpen : ¬ a.toNat ≤ c.openMax :=
    Nat.not_le.mpr ((o.open_lt_damped.trans_le o.damped_band).trans h)
  have notDamped : ¬ (c.dampedLow ≤ a.toNat ∧ a.toNat ≤ c.dampedHigh) := fun k => Nat.not_le.mpr h k.right
  simp only [Params.ampClass, if_neg notOpen, if_neg notDamped]

theorem Params.ampClass_of_normalRange (o : c.ThresholdsOrdered) (low : c.normalLow ≤ a.toNat)
    (high : a.toNat ≤ c.normalHigh) : c.ampClass a = .normal := by
  rw [ampClass_of_dampedHigh_lt o (o.damped_lt_normal.trans_le low), if_pos ⟨low, high⟩]

/-- Above the normal range, the threshold of SHORT alone decides. -/
theorem Params.ampClass_of_normalHigh_lt (o : c.ThresholdsOrdered) (h : c.normalHigh < a.toNat) :
    c.ampClass a = if c.shortMin ≤ a.toNat then .short else .indeterminate := by
  have aboveDamped : c.dampedHigh < a.toNat := (o.damped_lt_normal.trans_le o.normal_band).trans h
  rw [ampClass_of_dampedHigh_lt o aboveDamped, if_neg fun k => Nat.not_le.mpr h k.right]

theorem Params.ampClass_of_shortMin_le (o : c.ThresholdsOrdered) (h : c.shortMin ≤ a.toNat) :
    c.ampClass a = .short := by
  rw [ampClass_of_normalHigh_lt o (o.normal_lt_short.trans_le h), if_pos h]

theorem Params.ampClass_of_betweenRanges (o : c.ThresholdsOrdered) (h : c.betweenRanges a.toNat) :
    c.ampClass a = .indeterminate := by
  have ⟨_, _, _, _, _⟩ := o
  obtain ⟨aboveOpen, belowDamped⟩ | ⟨aboveDamped, belowNormal⟩ | ⟨aboveNormal, belowShort⟩ := h
  · simp only [Params.ampClass]
    rw [if_neg (by omega), if_neg (by omega), if_neg (by omega), if_neg (by omega)]
  · rw [ampClass_of_dampedHigh_lt o aboveDamped, if_neg (by omega), if_neg (by omega)]
  · rw [ampClass_of_normalHigh_lt o aboveNormal, if_neg (Nat.not_le.mpr belowShort)]

theorem Params.ampClass_of_band (o : c.ThresholdsOrdered) {k : AmpClass} (h : c.band a.toNat k) :
    c.ampClass a = k := by
  cases k with
  | open_ => exact ampClass_of_le_openMax h
  | damped => exact ampClass_of_dampedRange o h.left h.right
  | normal => exact ampClass_of_normalRange o h.left h.right
  | short => exact ampClass_of_shortMin_le o h
  | indeterminate => exact ampClass_of_betweenRanges o h

/-! ### The bands leave no sample out -/

/-- A value in none of the four named ranges lies between two of them. -/
theorem Params.exists_band (c : Params) (v : Nat) : ∃ k, c.band v k := by
  by_cases isOpen : v ≤ c.openMax
  · exact ⟨.open_, isOpen⟩
  by_cases isDamped : c.dampedLow ≤ v ∧ v ≤ c.dampedHigh
  · exact ⟨.damped, isDamped⟩
  by_cases isNormal : c.normalLow ≤ v ∧ v ≤ c.normalHigh
  · exact ⟨.normal, isNormal⟩
  by_cases isShort : c.shortMin ≤ v
  · exact ⟨.short, isShort⟩
  · refine ⟨.indeterminate, ?_⟩
    simp only [Params.band, Params.betweenRanges]
    omega

/-- A sample has the class in whose band it lies, and no other (R69). -/
theorem Params.ampClass_eq_iff_band (o : c.ThresholdsOrdered) (k : AmpClass) :
    c.ampClass a = k ↔ c.band a.toNat k := by
  refine ⟨fun e => ?_, ampClass_of_band o⟩
  obtain ⟨k', h⟩ := c.exists_band a.toNat
  have same : k' = k := (ampClass_of_band o h).symm.trans e
  exact same ▸ h

end

/-- Settles O27: each clause is the row of its class in R69's table. -/
theorem amplitudeClasses : Obligations.AmplitudeClasses := by
  intro c a openDamped damped dampedNormal normal normalShort
  have row := Params.ampClass_eq_iff_band (a := a) ⟨openDamped, damped, dampedNormal, normal, normalShort⟩
  exact ⟨row .open_, row .damped, row .normal, row .short, row .indeterminate⟩

end Sys2Proof.Machine

/-! SUPPORT. What becomes of a record that JRNL takes, one rule for each row of R155's table: the places free and the
dropped count decide. -/

namespace Sys2Proof.Machine

open Sys2Proof

section
variable {j : Journal} {now : Word} {d : Detail}

theorem Journal.hasPlace_iff : j.hasPlace ↔ j.queue.length < Config.queuePlaces := decide_eq_true_iff

theorem Journal.enterOrDrop_of_place (h : j.queue.length < Config.queuePlaces) :
    j.enterOrDrop now d = j.enter now d :=
  if_pos (hasPlace_iff.mpr h)

theorem Journal.enterOrDrop_of_full (h : Config.queuePlaces ≤ j.queue.length) : j.enterOrDrop now d = j.drop :=
  if_neg (mt hasPlace_iff.mp (Nat.not_lt.mpr h))

/-! ### The GAP record that goes before -/

/-- A GAP record enters with the dropped count, and the count is 0 again (R155). -/
def Journal.enterGap (j : Journal) (now : Word) : Journal := { j.enter now (.gap j.dropped) with dropped := 0 }

@[simp] theorem Journal.enterGap_queue_length : (j.enterGap now).queue.length = j.queue.length + 1 :=
  List.length_append

/-! ### The rows -/

theorem Journal.queueRecord_of_full (h : Config.queuePlaces ≤ j.queue.length) : j.queueRecord now d = j.drop := by
  have noPlace : ¬ j.hasPlace := mt hasPlace_iff.mp (Nat.not_lt.mpr h)
  simp [queueRecord, noPlace]

theorem Journal.queueRecord_of_none_dropped (h : j.queue.length < Config.queuePlaces) (noLoss : j.dropped = 0) :
    j.queueRecord now d = j.enter now d := by
  simp [queueRecord, hasPlace_iff.mpr h, noLoss]

/-- After a loss the GAP record takes the first free place, and the record takes what is left. -/
theorem Journal.queueRecord_of_dropped (h : j.queue.length < Config.queuePlaces) (loss : j.dropped ≠ 0) :
    j.queueRecord now d = (j.enterGap now).enterOrDrop now d := by
  simp [queueRecord, hasPlace_iff.mpr h, loss, enterGap]

theorem Journal.queueRecord_of_two_places (h : j.queue.length + 1 < Config.queuePlaces) (loss : j.dropped ≠ 0) :
    j.queueRecord now d = (j.enterGap now).enter now d := by
  rw [queueRecord_of_dropped (Nat.lt_of_succ_lt h) loss, enterOrDrop_of_place (by rwa [enterGap_queue_length])]

theorem Journal.queueRecord_of_one_place (h : j.queue.length + 1 = Config.queuePlaces) (loss : j.dropped ≠ 0) :
    j.queueRecord now d = (j.enterGap now).drop := by
  rw [queueRecord_of_dropped (Nat.lt_of_succ_le h.le) loss, enterOrDrop_of_full (by rw [enterGap_queue_length, h])]

end

open Journal in
/-- Settles O49: each clause is the rule of its row, with what enters and what is counted written out. -/
theorem journalTakesRecords : Obligations.JournalTakesRecords := by
  intro j now d
  refine ⟨?full, ?noneDropped, ?twoPlaces, ?onePlace⟩
  case full => exact queueRecord_of_full
  case noneDropped => exact queueRecord_of_none_dropped
  case twoPlaces => exact fun h loss => queueRecord_of_two_places (Nat.succ_lt_succ h) loss
  case onePlace => exact fun h loss => queueRecord_of_one_place (congrArg Nat.succ h) loss

end Sys2Proof.Machine

/-! SUPPORT. What each operation of a block leaves as it was: one lemma for each operation, naming every block it does
not write. -/

namespace Sys2Proof.Machine

open Sys2Proof

/-! ### HDEC -/

@[simp] theorem Part.separationReport_frame (p : Part) (h : HeadId) (f : Bool) :
    (p.separationReport h f).hdec = p.hdec ∧ (p.separationReport h f).scnt = p.scnt ∧
      (p.separationReport h f).supv = p.supv ∧ (p.separationReport h f).gen = p.gen ∧
      (p.separationReport h f).slots = p.slots ∧ (p.separationReport h f).jrnl = p.jrnl ∧
      (p.separationReport h f).topo = p.topo ∧ (p.separationReport h f).tbase = p.tbase ∧
      (p.separationReport h f).ticks = p.ticks := by
  unfold Part.separationReport; split <;> simp

@[simp] theorem Part.handOn_frame (p : Part) (h : HeadId) (o : PassageOutcome × Direction) :
    (p.handOn h o).hdec = p.hdec ∧ (p.handOn h o).scnt = p.scnt ∧ (p.handOn h o).supv = p.supv ∧
      (p.handOn h o).gen = p.gen ∧ (p.handOn h o).slots = p.slots ∧ (p.handOn h o).jrnl = p.jrnl ∧
      (p.handOn h o).topo = p.topo ∧ (p.handOn h o).tbase = p.tbase ∧ (p.handOn h o).ticks = p.ticks := by
  unfold Part.handOn; split <;> simp

@[simp] theorem Part.passageRecord_frame (p : Part) (h : HeadId) (o : PassageOutcome × Direction) :
    (p.passageRecord h o).hdec = p.hdec ∧ (p.passageRecord h o).scnt = p.scnt ∧ (p.passageRecord h o).supv = p.supv ∧
      (p.passageRecord h o).gen = p.gen ∧ (p.passageRecord h o).slots = p.slots ∧
      (p.passageRecord h o).topo = p.topo ∧ (p.passageRecord h o).tbase = p.tbase ∧
      (p.passageRecord h o).ticks = p.ticks ∧ (p.passageRecord h o).sent = p.sent := by
  unfold Part.passageRecord; split <;> simp

@[simp] theorem Part.endTraverse_frame (p : Part) (h : HeadId) (b : Bool) (o : PassageOutcome × Direction) :
    (p.endTraverse h b o).scnt = p.scnt ∧ (p.endTraverse h b o).supv = p.supv ∧ (p.endTraverse h b o).gen = p.gen ∧
      (p.endTraverse h b o).slots = p.slots ∧ (p.endTraverse h b o).topo = p.topo ∧
      (p.endTraverse h b o).tbase = p.tbase ∧ (p.endTraverse h b o).ticks = p.ticks := by
  simp [Part.endTraverse]

@[simp] theorem Part.traverseEdge_frame (p : Part) (h : HeadId) (x : HeadDecoder) (y : System) (d : EdgeDir) :
    (p.traverseEdge h x y d).scnt = p.scnt ∧ (p.traverseEdge h x y d).supv = p.supv ∧
      (p.traverseEdge h x y d).gen = p.gen ∧ (p.traverseEdge h x y d).slots = p.slots ∧
      (p.traverseEdge h x y d).topo = p.topo ∧ (p.traverseEdge h x y d).tbase = p.tbase ∧
      (p.traverseEdge h x y d).ticks = p.ticks := by
  simp only [Part.traverseEdge]; split <;> simp

@[simp] theorem Part.unsettledEdge_frame (p : Part) (h : HeadId) :
    (p.unsettledEdge h).scnt = p.scnt ∧ (p.unsettledEdge h).supv = p.supv ∧ (p.unsettledEdge h).gen = p.gen ∧
      (p.unsettledEdge h).slots = p.slots ∧ (p.unsettledEdge h).topo = p.topo ∧
      (p.unsettledEdge h).tbase = p.tbase ∧ (p.unsettledEdge h).ticks = p.ticks := by
  simp only [Part.unsettledEdge]; split <;> simp

@[simp] theorem Part.offEdge_frame (p : Part) (h : HeadId) :
    (p.offEdge h).hdec = p.hdec ∧ (p.offEdge h).scnt = p.scnt ∧ (p.offEdge h).supv = p.supv ∧
      (p.offEdge h).gen = p.gen ∧ (p.offEdge h).slots = p.slots ∧ (p.offEdge h).jrnl = p.jrnl ∧
      (p.offEdge h).topo = p.topo ∧ (p.offEdge h).tbase = p.tbase ∧ (p.offEdge h).ticks = p.ticks := by
  unfold Part.offEdge; split <;> simp

@[simp] theorem Part.leaveIdle_frame (p : Part) (h : HeadId) (y : System) :
    (p.leaveIdle h y).scnt = p.scnt ∧ (p.leaveIdle h y).supv = p.supv ∧ (p.leaveIdle h y).gen = p.gen ∧
      (p.leaveIdle h y).slots = p.slots ∧ (p.leaveIdle h y).jrnl = p.jrnl ∧ (p.leaveIdle h y).topo = p.topo ∧
      (p.leaveIdle h y).tbase = p.tbase ∧ (p.leaveIdle h y).ticks = p.ticks := by
  simp [Part.leaveIdle]

@[simp] theorem Part.shadowEdge_frame (p : Part) (h : HeadId) (x : HeadDecoder) (y : System) (d : EdgeDir) :
    (p.shadowEdge h x y d).scnt = p.scnt ∧ (p.shadowEdge h x y d).supv = p.supv ∧
      (p.shadowEdge h x y d).slots = p.slots ∧ (p.shadowEdge h x y d).jrnl = p.jrnl ∧
      (p.shadowEdge h x y d).topo = p.topo ∧ (p.shadowEdge h x y d).tbase = p.tbase ∧
      (p.shadowEdge h x y d).ticks = p.ticks ∧ (p.shadowEdge h x y d).sent = p.sent := by
  unfold Part.shadowEdge
  split
  · simp
  · cases d <;> simp
  · simp

@[simp] theorem Part.copyEdge_frame (p : Part) (h : HeadId) (y : System) (d : EdgeDir) :
    (p.copyEdge h y d).hdec = p.hdec ∧ (p.copyEdge h y d).scnt = p.scnt ∧ (p.copyEdge h y d).supv = p.supv ∧
      (p.copyEdge h y d).gen = p.gen ∧ (p.copyEdge h y d).slots = p.slots ∧ (p.copyEdge h y d).jrnl = p.jrnl ∧
      (p.copyEdge h y d).topo = p.topo ∧ (p.copyEdge h y d).tbase = p.tbase ∧
      (p.copyEdge h y d).ticks = p.ticks := by
  unfold Part.copyEdge; split <;> simp

@[simp] theorem Part.handleEdge_frame (p : Part) (h : HeadId) (x : HeadDecoder) (y : System) (d : EdgeDir) :
    (p.handleEdge h x y d).scnt = p.scnt ∧ (p.handleEdge h x y d).supv = p.supv ∧
      (p.handleEdge h x y d).slots = p.slots ∧ (p.handleEdge h x y d).topo = p.topo ∧
      (p.handleEdge h x y d).tbase = p.tbase ∧ (p.handleEdge h x y d).ticks = p.ticks := by
  unfold Part.handleEdge
  split
  · simp
  · simp
  · split <;> simp
  · cases d
    · simp only []; split <;> simp
    · simp
  · split <;> simp

@[simp] theorem Part.takeEdge_frame (p : Part) (h : HeadId) (y : System) (d : EdgeDir) :
    (p.takeEdge h y d).scnt = p.scnt ∧ (p.takeEdge h y d).supv = p.supv ∧ (p.takeEdge h y d).slots = p.slots ∧
      (p.takeEdge h y d).topo = p.topo ∧ (p.takeEdge h y d).tbase = p.tbase ∧
      (p.takeEdge h y d).ticks = p.ticks := by
  simp [Part.takeEdge]

@[simp] theorem Part.edgeAt_frame (p : Part) (h : HeadId) (y : System) (d : EdgeDir) (period : Nat) :
    (p.edgeAt h y d period).scnt = p.scnt ∧ (p.edgeAt h y d period).supv = p.supv ∧
      (p.edgeAt h y d period).slots = p.slots ∧ (p.edgeAt h y d period).topo = p.topo ∧
      (p.edgeAt h y d period).ticks = p.ticks := by
  unfold Part.edgeAt; split <;> simp

@[simp] theorem Part.examineDwell_frame (p : Part) (h : HeadId) :
    (p.examineDwell h).scnt = p.scnt ∧ (p.examineDwell h).supv = p.supv ∧ (p.examineDwell h).gen = p.gen ∧
      (p.examineDwell h).slots = p.slots ∧ (p.examineDwell h).topo = p.topo ∧ (p.examineDwell h).tbase = p.tbase ∧
      (p.examineDwell h).ticks = p.ticks ∧ (p.examineDwell h).sent = p.sent := by
  unfold Part.examineDwell; split <;> simp

@[simp] theorem Part.examineAll_frame (p : Part) :
    p.examineAll.scnt = p.scnt ∧ p.examineAll.supv = p.supv ∧ p.examineAll.gen = p.gen ∧
      p.examineAll.slots = p.slots ∧ p.examineAll.topo = p.topo ∧ p.examineAll.tbase = p.tbase ∧
      p.examineAll.ticks = p.ticks ∧ p.examineAll.sent = p.sent := by
  unfold Part.examineAll
  refine ⟨foldl_frame _ Part.scnt ?_ _ p, foldl_frame _ Part.supv ?_ _ p, foldl_frame _ Part.gen ?_ _ p,
    foldl_frame _ Part.slots ?_ _ p, foldl_frame _ Part.topo ?_ _ p, foldl_frame _ Part.tbase ?_ _ p,
    foldl_frame _ Part.ticks ?_ _ p, foldl_frame _ Part.sent ?_ _ p⟩ <;> simp

@[simp] theorem Part.takeRecovery_frame (p : Part) (h : HeadId) :
    (p.takeRecovery h).scnt = p.scnt ∧ (p.takeRecovery h).supv = p.supv ∧ (p.takeRecovery h).gen = p.gen ∧
      (p.takeRecovery h).slots = p.slots ∧ (p.takeRecovery h).jrnl = p.jrnl ∧ (p.takeRecovery h).topo = p.topo ∧
      (p.takeRecovery h).tbase = p.tbase ∧ (p.takeRecovery h).ticks = p.ticks ∧
      (p.takeRecovery h).sent = p.sent := by
  unfold Part.takeRecovery; split <;> simp

/-! ### SCNT -/

@[simp] theorem Part.passage_frame (p : Part) (h : HeadId) (d : Direction) :
    (p.passage h d).hdec = p.hdec ∧ (p.passage h d).supv = p.supv ∧ (p.passage h d).gen = p.gen ∧
      (p.passage h d).topo = p.topo ∧ (p.passage h d).tbase = p.tbase ∧ (p.passage h d).ticks = p.ticks ∧
      (p.passage h d).sent = p.sent := by
  simp [Part.passage]

@[simp] theorem Part.movement_frame (p : Part) (h : HeadId) :
    (p.movement h).hdec = p.hdec ∧ (p.movement h).supv = p.supv ∧ (p.movement h).gen = p.gen ∧
      (p.movement h).slots = p.slots ∧ (p.movement h).jrnl = p.jrnl ∧ (p.movement h).topo = p.topo ∧
      (p.movement h).tbase = p.tbase ∧ (p.movement h).ticks = p.ticks ∧ (p.movement h).sent = p.sent := by
  unfold Part.movement
  refine ⟨foldl_frame _ Part.hdec ?_ _ p, foldl_frame _ Part.supv ?_ _ p, foldl_frame _ Part.gen ?_ _ p,
    foldl_frame _ Part.slots ?_ _ p, foldl_frame _ Part.jrnl ?_ _ p, foldl_frame _ Part.topo ?_ _ p,
    foldl_frame _ Part.tbase ?_ _ p, foldl_frame _ Part.ticks ?_ _ p, foldl_frame _ Part.sent ?_ _ p⟩ <;> simp

@[simp] theorem Part.waitEnds_frame (p : Part) (now : Word) (i : SectionId) :
    (p.waitEnds now i).hdec = p.hdec ∧ (p.waitEnds now i).supv = p.supv ∧ (p.waitEnds now i).gen = p.gen ∧
      (p.waitEnds now i).topo = p.topo ∧ (p.waitEnds now i).tbase = p.tbase ∧ (p.waitEnds now i).ticks = p.ticks ∧
      (p.waitEnds now i).sent = p.sent := by
  unfold Part.waitEnds; cases p.scnt[i].slot <;> simp

@[simp] theorem Part.settleSection_frame (p : Part) (now : Word) (i : SectionId) :
    (p.settleSection now i).hdec = p.hdec ∧ (p.settleSection now i).supv = p.supv ∧
      (p.settleSection now i).gen = p.gen ∧ (p.settleSection now i).topo = p.topo ∧
      (p.settleSection now i).tbase = p.tbase ∧ (p.settleSection now i).ticks = p.ticks ∧
      (p.settleSection now i).sent = p.sent := by
  unfold Part.settleSection; split_ifs <;> simp

@[simp] theorem Part.settleAll_frame (p : Part) (now : Word) :
    (p.settleAll now).hdec = p.hdec ∧ (p.settleAll now).supv = p.supv ∧ (p.settleAll now).gen = p.gen ∧
      (p.settleAll now).topo = p.topo ∧ (p.settleAll now).tbase = p.tbase ∧ (p.settleAll now).ticks = p.ticks ∧
      (p.settleAll now).sent = p.sent := by
  unfold Part.settleAll
  refine ⟨foldl_frame _ Part.hdec ?_ _ p, foldl_frame _ Part.supv ?_ _ p, foldl_frame _ Part.gen ?_ _ p,
    foldl_frame _ Part.topo ?_ _ p, foldl_frame _ Part.tbase ?_ _ p, foldl_frame _ Part.ticks ?_ _ p,
    foldl_frame _ Part.sent ?_ _ p⟩ <;> simp

@[simp] theorem Part.settleTick_frame (p : Part) :
    p.settleTick.hdec = p.hdec ∧ p.settleTick.supv = p.supv ∧ p.settleTick.gen = p.gen ∧
      p.settleTick.topo = p.topo ∧ p.settleTick.tbase = p.tbase ∧ p.settleTick.sent = p.sent := by
  unfold Part.settleTick
  split
  · simp
  · simp only []; split <;> simp

@[simp] theorem Part.acceptSweep_frame (p : Part) (n : SlotId) (i : SectionId) :
    (p.acceptSweep n i).hdec = p.hdec ∧ (p.acceptSweep n i).supv = p.supv ∧ (p.acceptSweep n i).gen = p.gen ∧
      (p.acceptSweep n i).slots = p.slots ∧ (p.acceptSweep n i).topo = p.topo ∧
      (p.acceptSweep n i).tbase = p.tbase ∧ (p.acceptSweep n i).ticks = p.ticks ∧
      (p.acceptSweep n i).sent = p.sent := by
  simp [Part.acceptSweep]

@[simp] theorem Part.acceptPrepared_frame (p : Part) (i : SectionId) :
    (p.acceptPrepared i).hdec = p.hdec ∧ (p.acceptPrepared i).supv = p.supv ∧ (p.acceptPrepared i).gen = p.gen ∧
      (p.acceptPrepared i).slots = p.slots ∧ (p.acceptPrepared i).topo = p.topo ∧
      (p.acceptPrepared i).tbase = p.tbase ∧ (p.acceptPrepared i).ticks = p.ticks ∧
      (p.acceptPrepared i).sent = p.sent := by
  simp [Part.acceptPrepared]

@[simp] theorem Part.cancelSweep_frame (p : Part) (n : SlotId) :
    (p.cancelSweep n).hdec = p.hdec ∧ (p.cancelSweep n).supv = p.supv ∧ (p.cancelSweep n).gen = p.gen ∧
      (p.cancelSweep n).slots = p.slots ∧ (p.cancelSweep n).topo = p.topo ∧ (p.cancelSweep n).tbase = p.tbase ∧
      (p.cancelSweep n).ticks = p.ticks ∧ (p.cancelSweep n).sent = p.sent := by
  unfold Part.cancelSweep; split <;> simp

/-! ### SUPV -/

@[simp] theorem Part.headFails_frame (p : Part) (now : Word) (h : HeadId) :
    (p.headFails now h).supv = p.supv ∧ (p.headFails now h).gen = p.gen ∧ (p.headFails now h).topo = p.topo ∧
      (p.headFails now h).tbase = p.tbase ∧ (p.headFails now h).ticks = p.ticks := by
  simp [Part.headFails]

@[simp] theorem Part.healthChange_frame (p : Part) (now : Word) (h : HeadId) (n : Nat) (t : Trigger)
    (y : Option System) :
    (p.healthChange now h n t y).gen = p.gen ∧ (p.healthChange now h n t y).topo = p.topo ∧
      (p.healthChange now h n t y).tbase = p.tbase ∧ (p.healthChange now h n t y).ticks = p.ticks := by
  simp only [Part.healthChange]
  split
  · simp
  · split <;> simp

@[simp] theorem Part.scoreEvent_frame (p : Part) (now : Word) (h : HeadId) (c : ScoreChange) (t : Trigger)
    (y : Option System) :
    (p.scoreEvent now h c t y).gen = p.gen ∧ (p.scoreEvent now h c t y).topo = p.topo ∧
      (p.scoreEvent now h c t y).tbase = p.tbase ∧ (p.scoreEvent now h c t y).ticks = p.ticks := by
  unfold Part.scoreEvent; split_ifs <;> simp

@[simp] theorem Part.scanSystem_frame (p : Part) (now : Word) (h : HeadId) (y : System) (c : AmpClass) :
    (p.scanSystem now h y c).gen = p.gen ∧ (p.scanSystem now h y c).topo = p.topo ∧
      (p.scanSystem now h y c).tbase = p.tbase ∧ (p.scanSystem now h y c).ticks = p.ticks := by
  unfold Part.scanSystem; split <;> simp

@[simp] theorem Part.reportRestart_frame (p : Part) (now : Word) (h : HeadId) (n : Option SlotId) (st : SlotState)
    (r : Result) :
    (p.reportRestart now h n st r).hdec = p.hdec ∧ (p.reportRestart now h n st r).scnt = p.scnt ∧
      (p.reportRestart now h n st r).supv = p.supv ∧ (p.reportRestart now h n st r).gen = p.gen ∧
      (p.reportRestart now h n st r).topo = p.topo ∧ (p.reportRestart now h n st r).tbase = p.tbase ∧
      (p.reportRestart now h n st r).ticks = p.ticks ∧ (p.reportRestart now h n st r).sent = p.sent := by
  unfold Part.reportRestart; split <;> simp

@[simp] theorem Part.recoveryDone_frame (p : Part) (now : Word) (h : HeadId) :
    (p.recoveryDone now h).hdec = p.hdec ∧ (p.recoveryDone now h).scnt = p.scnt ∧
      (p.recoveryDone now h).gen = p.gen ∧ (p.recoveryDone now h).topo = p.topo ∧
      (p.recoveryDone now h).tbase = p.tbase ∧ (p.recoveryDone now h).ticks = p.ticks := by
  simp [Part.recoveryDone]

@[simp] theorem Part.quietCheck_frame (p : Part) (now : Word) (h : HeadId) :
    (p.quietCheck now h).hdec = p.hdec ∧ (p.quietCheck now h).scnt = p.scnt ∧ (p.quietCheck now h).gen = p.gen ∧
      (p.quietCheck now h).topo = p.topo ∧ (p.quietCheck now h).tbase = p.tbase ∧
      (p.quietCheck now h).ticks = p.ticks := by
  simp only [Part.quietCheck]; split <;> split <;> simp

@[simp] theorem Part.superviseHead_frame (p : Part) (now : Word) (h : HeadId) (a b : Amp) :
    (p.superviseHead now h a b).gen = p.gen ∧ (p.superviseHead now h a b).topo = p.topo ∧
      (p.superviseHead now h a b).tbase = p.tbase ∧ (p.superviseHead now h a b).ticks = p.ticks := by
  simp only [Part.superviseHead]; split <;> simp

@[simp] theorem Part.supvTickDone_frame (p : Part) :
    p.supvTickDone.hdec = p.hdec ∧ p.supvTickDone.scnt = p.scnt ∧ p.supvTickDone.supv = p.supv ∧
      p.supvTickDone.gen = p.gen ∧ p.supvTickDone.slots = p.slots ∧ p.supvTickDone.jrnl = p.jrnl ∧
      p.supvTickDone.topo = p.topo ∧ p.supvTickDone.tbase = p.tbase ∧ p.supvTickDone.sent = p.sent := by
  simp [Part.supvTickDone]

@[simp] theorem Part.passOn_frame (p : Part) (h : HeadId) :
    (p.passOn h).hdec = p.hdec ∧ (p.passOn h).scnt = p.scnt ∧ (p.passOn h).supv = p.supv ∧
      (p.passOn h).gen = p.gen ∧ (p.passOn h).slots = p.slots ∧ (p.passOn h).jrnl = p.jrnl ∧
      (p.passOn h).topo = p.topo ∧ (p.passOn h).tbase = p.tbase ∧ (p.passOn h).sent = p.sent := by
  unfold Part.passOn; split <;> simp

@[simp] theorem Part.supervisionTick_frame (p : Part) (h : HeadId) (a b : Amp) :
    (p.supervisionTick h a b).gen = p.gen ∧ (p.supervisionTick h a b).topo = p.topo ∧
      (p.supervisionTick h a b).tbase = p.tbase := by
  unfold Part.supervisionTick
  split
  · simp
  · split_ifs
    · simp
    · split
      · simp
      · split_ifs <;> simp

@[simp] theorem Part.restartTimesOut_frame (p : Part) (now : Word) (h : HeadId) :
    (p.restartTimesOut now h).hdec = p.hdec ∧ (p.restartTimesOut now h).scnt = p.scnt ∧
      (p.restartTimesOut now h).gen = p.gen ∧ (p.restartTimesOut now h).topo = p.topo ∧
      (p.restartTimesOut now h).tbase = p.tbase ∧ (p.restartTimesOut now h).ticks = p.ticks ∧
      (p.restartTimesOut now h).sent = p.sent := by
  simp [Part.restartTimesOut]

@[simp] theorem Part.slowHead_frame (p : Part) (now : Word) (h : HeadId) :
    (p.slowHead now h).hdec = p.hdec ∧ (p.slowHead now h).scnt = p.scnt ∧ (p.slowHead now h).gen = p.gen ∧
      (p.slowHead now h).topo = p.topo ∧ (p.slowHead now h).tbase = p.tbase ∧ (p.slowHead now h).ticks = p.ticks ∧
      (p.slowHead now h).sent = p.sent := by
  simp only [Part.slowHead]; split_ifs <;> simp

/-- The fold of a slow tick over the heads touches SUPV, REQE and JRNL. -/
@[simp] theorem Part.slowHeads_frame (p : Part) (now : Word) (l : List HeadId) :
    (l.foldl (fun q h => q.slowHead now h) p).hdec = p.hdec ∧
      (l.foldl (fun q h => q.slowHead now h) p).scnt = p.scnt ∧
      (l.foldl (fun q h => q.slowHead now h) p).gen = p.gen ∧
      (l.foldl (fun q h => q.slowHead now h) p).topo = p.topo ∧
      (l.foldl (fun q h => q.slowHead now h) p).tbase = p.tbase ∧
      (l.foldl (fun q h => q.slowHead now h) p).ticks = p.ticks ∧
      (l.foldl (fun q h => q.slowHead now h) p).sent = p.sent := by
  refine ⟨foldl_frame _ Part.hdec ?_ _ p, foldl_frame _ Part.scnt ?_ _ p, foldl_frame _ Part.gen ?_ _ p,
    foldl_frame _ Part.topo ?_ _ p, foldl_frame _ Part.tbase ?_ _ p, foldl_frame _ Part.ticks ?_ _ p,
    foldl_frame _ Part.sent ?_ _ p⟩ <;> simp

@[simp] theorem Part.supvSlowTick_frame (p : Part) :
    p.supvSlowTick.hdec = p.hdec ∧ p.supvSlowTick.scnt = p.scnt ∧ p.supvSlowTick.gen = p.gen ∧
      p.supvSlowTick.topo = p.topo ∧ p.supvSlowTick.tbase = p.tbase ∧ p.supvSlowTick.sent = p.sent := by
  unfold Part.supvSlowTick
  split
  · simp
  · simp only []; split <;> simp

@[simp] theorem Part.acceptRestart_frame (p : Part) (n : SlotId) (h : HeadId) :
    (p.acceptRestart n h).hdec = p.hdec ∧ (p.acceptRestart n h).scnt = p.scnt ∧ (p.acceptRestart n h).gen = p.gen ∧
      (p.acceptRestart n h).slots = p.slots ∧ (p.acceptRestart n h).jrnl = p.jrnl ∧
      (p.acceptRestart n h).topo = p.topo ∧ (p.acceptRestart n h).tbase = p.tbase ∧
      (p.acceptRestart n h).ticks = p.ticks ∧ (p.acceptRestart n h).sent = p.sent := by
  simp [Part.acceptRestart]

@[simp] theorem Part.cancelRestart_frame (p : Part) (n : SlotId) :
    (p.cancelRestart n).hdec = p.hdec ∧ (p.cancelRestart n).scnt = p.scnt ∧ (p.cancelRestart n).gen = p.gen ∧
      (p.cancelRestart n).slots = p.slots ∧ (p.cancelRestart n).topo = p.topo ∧
      (p.cancelRestart n).tbase = p.tbase ∧ (p.cancelRestart n).ticks = p.ticks ∧
      (p.cancelRestart n).sent = p.sent := by
  unfold Part.cancelRestart; split <;> simp

@[simp] theorem Part.reportTaken_frame (p : Part) :
    p.reportTaken.hdec = p.hdec ∧ p.reportTaken.scnt = p.scnt ∧ p.reportTaken.supv = p.supv ∧
      p.reportTaken.slots = p.slots ∧ p.reportTaken.jrnl = p.jrnl ∧ p.reportTaken.topo = p.topo ∧
      p.reportTaken.tbase = p.tbase ∧ p.reportTaken.ticks = p.ticks ∧ p.reportTaken.sent = p.sent := by
  simp [Part.reportTaken]

@[simp] theorem Part.takeSample_frame (p : Part) (a b : Amp) :
    (p.takeSample a b).hdec = p.hdec ∧ (p.takeSample a b).scnt = p.scnt ∧ (p.takeSample a b).supv = p.supv ∧
      (p.takeSample a b).gen = p.gen ∧ (p.takeSample a b).slots = p.slots ∧ (p.takeSample a b).jrnl = p.jrnl ∧
      (p.takeSample a b).topo = p.topo ∧ (p.takeSample a b).tbase = p.tbase ∧
      (p.takeSample a b).ticks = p.ticks := by
  unfold Part.takeSample
  split
  · simp
  · simp only []; split <;> simp

/-! ### TGEN -/

@[simp] theorem Part.leaveTest_frame (p : Part) (h : HeadId) :
    (p.leaveTest h).scnt = p.scnt ∧ (p.leaveTest h).supv = p.supv ∧ (p.leaveTest h).gen = p.gen ∧
      (p.leaveTest h).slots = p.slots ∧ (p.leaveTest h).jrnl = p.jrnl ∧ (p.leaveTest h).topo = p.topo ∧
      (p.leaveTest h).tbase = p.tbase ∧ (p.leaveTest h).ticks = p.ticks ∧ (p.leaveTest h).sent = p.sent := by
  simp [Part.leaveTest]

@[simp] theorem Part.reportTest_frame (p : Part) (h : HeadId) (n : Option SlotId) (st : SlotState) (r : Result) :
    (p.reportTest h n st r).hdec = p.hdec ∧ (p.reportTest h n st r).scnt = p.scnt ∧
      (p.reportTest h n st r).supv = p.supv ∧ (p.reportTest h n st r).gen = p.gen ∧
      (p.reportTest h n st r).topo = p.topo ∧ (p.reportTest h n st r).tbase = p.tbase ∧
      (p.reportTest h n st r).ticks = p.ticks ∧ (p.reportTest h n st r).sent = p.sent := by
  unfold Part.reportTest; split <;> simp

@[simp] theorem Part.testPasses_frame (p : Part) (h : HeadId) :
    (p.testPasses h).scnt = p.scnt ∧ (p.testPasses h).supv = p.supv ∧ (p.testPasses h).topo = p.topo ∧
      (p.testPasses h).tbase = p.tbase ∧ (p.testPasses h).ticks = p.ticks := by
  simp [Part.testPasses]

@[simp] theorem Part.testFails_frame (p : Part) (h : HeadId) (c : TestCheck) :
    (p.testFails h c).scnt = p.scnt ∧ (p.testFails h c).supv = p.supv ∧ (p.testFails h c).topo = p.topo ∧
      (p.testFails h c).tbase = p.tbase ∧ (p.testFails h c).ticks = p.ticks := by
  simp [Part.testFails]

@[simp] theorem Part.testAborts_frame (p : Part) (h : HeadId) :
    (p.testAborts h).supv = p.supv ∧ (p.testAborts h).topo = p.topo ∧ (p.testAborts h).tbase = p.tbase ∧
      (p.testAborts h).ticks = p.ticks ∧ (p.testAborts h).sent = p.sent := by
  simp [Part.testAborts]

@[simp] theorem Part.cancelTest_frame (p : Part) :
    p.cancelTest.scnt = p.scnt ∧ p.cancelTest.supv = p.supv ∧ p.cancelTest.slots = p.slots ∧
      p.cancelTest.topo = p.topo ∧ p.cancelTest.tbase = p.tbase ∧ p.cancelTest.ticks = p.ticks ∧
      p.cancelTest.sent = p.sent := by
  simp only [Part.cancelTest]
  split
  · simp
  · split <;> simp

@[simp] theorem Part.releaseAborts_frame (p : Part) (h : HeadId) (c : TestCheck) :
    (p.releaseAborts h c).hdec = p.hdec ∧ (p.releaseAborts h c).scnt = p.scnt ∧
      (p.releaseAborts h c).supv = p.supv ∧ (p.releaseAborts h c).slots = p.slots ∧
      (p.releaseAborts h c).topo = p.topo ∧ (p.releaseAborts h c).tbase = p.tbase ∧
      (p.releaseAborts h c).ticks = p.ticks := by
  simp [Part.releaseAborts]

@[simp] theorem Part.stepEnds_frame (p : Part) (h : HeadId) :
    (p.stepEnds h).scnt = p.scnt ∧ (p.stepEnds h).supv = p.supv ∧ (p.stepEnds h).topo = p.topo ∧
      (p.stepEnds h).tbase = p.tbase ∧ (p.stepEnds h).ticks = p.ticks := by
  simp only [Part.stepEnds]; split_ifs <;> simp

@[simp] theorem Part.askSample_frame (p : Part) (h : HeadId) :
    (p.askSample h).hdec = p.hdec ∧ (p.askSample h).scnt = p.scnt ∧ (p.askSample h).supv = p.supv ∧
      (p.askSample h).gen = p.gen ∧ (p.askSample h).slots = p.slots ∧ (p.askSample h).jrnl = p.jrnl ∧
      (p.askSample h).topo = p.topo ∧ (p.askSample h).tbase = p.tbase ∧ (p.askSample h).ticks = p.ticks := by
  simp [Part.askSample]

@[simp] theorem Part.releaseEnds_frame (p : Part) (h : HeadId) :
    (p.releaseEnds h).hdec = p.hdec ∧ (p.releaseEnds h).scnt = p.scnt ∧ (p.releaseEnds h).supv = p.supv ∧
      (p.releaseEnds h).slots = p.slots ∧ (p.releaseEnds h).topo = p.topo ∧ (p.releaseEnds h).tbase = p.tbase ∧
      (p.releaseEnds h).ticks = p.ticks := by
  unfold Part.releaseEnds; split <;> simp

@[simp] theorem Part.patternStart_frame (p : Part) :
    p.patternStart.hdec = p.hdec ∧ p.patternStart.scnt = p.scnt ∧ p.patternStart.supv = p.supv ∧
      p.patternStart.slots = p.slots ∧ p.patternStart.jrnl = p.jrnl ∧ p.patternStart.topo = p.topo ∧
      p.patternStart.tbase = p.tbase ∧ p.patternStart.ticks = p.ticks ∧ p.patternStart.sent = p.sent := by
  unfold Part.patternStart; split <;> simp

@[simp] theorem Part.tickWithinStep_frame (p : Part) :
    p.tickWithinStep.hdec = p.hdec ∧ p.tickWithinStep.scnt = p.scnt ∧ p.tickWithinStep.supv = p.supv ∧
      p.tickWithinStep.slots = p.slots ∧ p.tickWithinStep.jrnl = p.jrnl ∧ p.tickWithinStep.topo = p.topo ∧
      p.tickWithinStep.tbase = p.tbase ∧ p.tickWithinStep.ticks = p.ticks := by
  obtain ⟨l, e⟩ := p.tickWithinStep_keeps
  simp [e]

@[simp] theorem Part.followWindowClose_frame (p : Part) :
    p.followWindowClose.hdec = p.hdec ∧ p.followWindowClose.scnt = p.scnt ∧ p.followWindowClose.supv = p.supv ∧
      p.followWindowClose.slots = p.slots ∧ p.followWindowClose.jrnl = p.jrnl ∧
      p.followWindowClose.topo = p.topo ∧ p.followWindowClose.tbase = p.tbase ∧
      p.followWindowClose.ticks = p.ticks := by
  unfold Part.followWindowClose; split <;> simp

@[simp] theorem Part.midStepSample_frame (p : Part) :
    p.midStepSample.hdec = p.hdec ∧ p.midStepSample.scnt = p.scnt ∧ p.midStepSample.supv = p.supv ∧
      p.midStepSample.slots = p.slots ∧ p.midStepSample.jrnl = p.jrnl ∧ p.midStepSample.topo = p.topo ∧
      p.midStepSample.tbase = p.tbase ∧ p.midStepSample.ticks = p.ticks := by
  unfold Part.midStepSample; split <;> simp

@[simp] theorem Part.stepDeadline_frame (p : Part) :
    p.stepDeadline.scnt = p.scnt ∧ p.stepDeadline.supv = p.supv ∧ p.stepDeadline.topo = p.topo ∧
      p.stepDeadline.tbase = p.tbase ∧ p.stepDeadline.ticks = p.ticks := by
  unfold Part.stepDeadline
  split
  · simp
  · split <;> simp

@[simp] theorem Part.releaseTimeEnd_frame (p : Part) :
    p.releaseTimeEnd.hdec = p.hdec ∧ p.releaseTimeEnd.scnt = p.scnt ∧ p.releaseTimeEnd.supv = p.supv ∧
      p.releaseTimeEnd.slots = p.slots ∧ p.releaseTimeEnd.topo = p.topo ∧ p.releaseTimeEnd.tbase = p.tbase ∧
      p.releaseTimeEnd.ticks = p.ticks := by
  unfold Part.releaseTimeEnd
  split
  · simp
  · split <;> simp

@[simp] theorem Part.lowerPending_frame (p : Part) :
    p.lowerPending.hdec = p.hdec ∧ p.lowerPending.scnt = p.scnt ∧ p.lowerPending.supv = p.supv ∧
      p.lowerPending.slots = p.slots ∧ p.lowerPending.jrnl = p.jrnl ∧ p.lowerPending.topo = p.topo ∧
      p.lowerPending.tbase = p.tbase ∧ p.lowerPending.ticks = p.ticks ∧ p.lowerPending.sent = p.sent := by
  unfold Part.lowerPending; split <;> simp

@[simp] theorem Part.takePendingTick_frame (p : Part) :
    p.takePendingTick.scnt = p.scnt ∧ p.takePendingTick.supv = p.supv ∧ p.takePendingTick.topo = p.topo ∧
      p.takePendingTick.tbase = p.tbase ∧ p.takePendingTick.ticks = p.ticks := by
  unfold Part.takePendingTick; split <;> simp

@[simp] theorem Part.judgeCopy_frame (p : Part) (c : EdgeCopy) :
    (p.judgeCopy c).supv = p.supv ∧ (p.judgeCopy c).topo = p.topo ∧ (p.judgeCopy c).tbase = p.tbase ∧
      (p.judgeCopy c).ticks = p.ticks := by
  unfold Part.judgeCopy
  split
  · simp
  · split
    · simp
    · split <;> simp
    · split
      · split <;> simp
      · split <;> simp
      · simp

@[simp] theorem Part.takeCopy_frame (p : Part) :
    p.takeCopy.supv = p.supv ∧ p.takeCopy.topo = p.topo ∧ p.takeCopy.tbase = p.tbase ∧
      p.takeCopy.ticks = p.ticks := by
  unfold Part.takeCopy; split <;> simp

@[simp] theorem Part.judgeAnswer_frame (p : Part) (a : SampleAnswer) :
    (p.judgeAnswer a).scnt = p.scnt ∧ (p.judgeAnswer a).supv = p.supv ∧ (p.judgeAnswer a).topo = p.topo ∧
      (p.judgeAnswer a).tbase = p.tbase ∧ (p.judgeAnswer a).ticks = p.ticks := by
  unfold Part.judgeAnswer
  split
  · simp
  · split_ifs <;> simp

@[simp] theorem Part.takeAnswer_frame (p : Part) :
    p.takeAnswer.scnt = p.scnt ∧ p.takeAnswer.supv = p.supv ∧ p.takeAnswer.topo = p.topo ∧
      p.takeAnswer.tbase = p.tbase ∧ p.takeAnswer.ticks = p.ticks := by
  unfold Part.takeAnswer; split <;> simp

@[simp] theorem Part.acceptTest_frame (p : Part) (n : SlotId) (h : HeadId) :
    (p.acceptTest n h).scnt = p.scnt ∧ (p.acceptTest n h).supv = p.supv ∧ (p.acceptTest n h).slots = p.slots ∧
      (p.acceptTest n h).jrnl = p.jrnl ∧ (p.acceptTest n h).topo = p.topo ∧ (p.acceptTest n h).tbase = p.tbase ∧
      (p.acceptTest n h).ticks = p.ticks ∧ (p.acceptTest n h).sent = p.sent := by
  simp [Part.acceptTest]

/-! ### REQE -/

@[simp] theorem Part.refuse_frame (p : Part) (n : SlotId) (w : Word) (r : Result) :
    (p.refuse n w r).hdec = p.hdec ∧ (p.refuse n w r).scnt = p.scnt ∧ (p.refuse n w r).supv = p.supv ∧
      (p.refuse n w r).gen = p.gen ∧ (p.refuse n w r).topo = p.topo ∧ (p.refuse n w r).tbase = p.tbase ∧
      (p.refuse n w r).ticks = p.ticks ∧ (p.refuse n w r).sent = p.sent := by
  simp [Part.refuse]

@[simp] theorem Part.doneOk_frame (p : Part) (n : SlotId) (w : Word) :
    (p.doneOk n w).hdec = p.hdec ∧ (p.doneOk n w).scnt = p.scnt ∧ (p.doneOk n w).supv = p.supv ∧
      (p.doneOk n w).gen = p.gen ∧ (p.doneOk n w).topo = p.topo ∧ (p.doneOk n w).tbase = p.tbase ∧
      (p.doneOk n w).ticks = p.ticks ∧ (p.doneOk n w).sent = p.sent := by
  simp [Part.doneOk]

@[simp] theorem Part.startSlot_frame (p : Part) (n : SlotId) (w : Word) (st : SlotState) :
    (p.startSlot n w st).hdec = p.hdec ∧ (p.startSlot n w st).scnt = p.scnt ∧ (p.startSlot n w st).supv = p.supv ∧
      (p.startSlot n w st).gen = p.gen ∧ (p.startSlot n w st).jrnl = p.jrnl ∧ (p.startSlot n w st).topo = p.topo ∧
      (p.startSlot n w st).tbase = p.tbase ∧ (p.startSlot n w st).ticks = p.ticks ∧
      (p.startSlot n w st).sent = p.sent := by
  simp [Part.startSlot]

@[simp] theorem Part.cancelWork_frame (p : Part) (m : SlotId) :
    (p.cancelWork m).slots = p.slots ∧ (p.cancelWork m).topo = p.topo ∧ (p.cancelWork m).tbase = p.tbase ∧
      (p.cancelWork m).ticks = p.ticks ∧ (p.cancelWork m).sent = p.sent := by
  unfold Part.cancelWork; split_ifs <;> simp

@[simp] theorem Part.dispatchSweep_frame (p : Part) (n : SlotId) (w : Word) :
    (p.dispatchSweep n w).hdec = p.hdec ∧ (p.dispatchSweep n w).supv = p.supv ∧
      (p.dispatchSweep n w).gen = p.gen ∧ (p.dispatchSweep n w).topo = p.topo ∧
      (p.dispatchSweep n w).tbase = p.tbase ∧ (p.dispatchSweep n w).ticks = p.ticks ∧
      (p.dispatchSweep n w).sent = p.sent := by
  unfold Part.dispatchSweep
  split
  · simp
  · split <;> simp

@[simp] theorem Part.dispatchPrepared_frame (p : Part) (n : SlotId) (w : Word) :
    (p.dispatchPrepared n w).hdec = p.hdec ∧ (p.dispatchPrepared n w).supv = p.supv ∧
      (p.dispatchPrepared n w).gen = p.gen ∧ (p.dispatchPrepared n w).topo = p.topo ∧
      (p.dispatchPrepared n w).tbase = p.tbase ∧ (p.dispatchPrepared n w).ticks = p.ticks ∧
      (p.dispatchPrepared n w).sent = p.sent := by
  unfold Part.dispatchPrepared
  split
  · simp
  · split <;> simp

@[simp] theorem Part.dispatchRestart_frame (p : Part) (n : SlotId) (w : Word) :
    (p.dispatchRestart n w).hdec = p.hdec ∧ (p.dispatchRestart n w).scnt = p.scnt ∧
      (p.dispatchRestart n w).gen = p.gen ∧ (p.dispatchRestart n w).topo = p.topo ∧
      (p.dispatchRestart n w).tbase = p.tbase ∧ (p.dispatchRestart n w).ticks = p.ticks ∧
      (p.dispatchRestart n w).sent = p.sent := by
  unfold Part.dispatchRestart
  split
  · simp
  · split <;> simp

@[simp] theorem Part.dispatchTest_frame (p : Part) (n : SlotId) (w : Word) :
    (p.dispatchTest n w).scnt = p.scnt ∧ (p.dispatchTest n w).supv = p.supv ∧
      (p.dispatchTest n w).topo = p.topo ∧ (p.dispatchTest n w).tbase = p.tbase ∧
      (p.dispatchTest n w).ticks = p.ticks ∧ (p.dispatchTest n w).sent = p.sent := by
  unfold Part.dispatchTest
  split
  · simp
  · split <;> simp

@[simp] theorem Part.dispatchCancel_frame (p : Part) (n : SlotId) (w : Word) :
    (p.dispatchCancel n w).topo = p.topo ∧ (p.dispatchCancel n w).tbase = p.tbase ∧
      (p.dispatchCancel n w).ticks = p.ticks ∧ (p.dispatchCancel n w).sent = p.sent := by
  unfold Part.dispatchCancel
  split
  · simp
  · split <;> simp

@[simp] theorem Part.dispatch_frame (p : Part) (n : SlotId) (w : Word) :
    (p.dispatch n w).topo = p.topo ∧ (p.dispatch n w).tbase = p.tbase ∧ (p.dispatch n w).ticks = p.ticks ∧
      (p.dispatch n w).sent = p.sent := by
  unfold Part.dispatch; split_ifs <;> simp

@[simp] theorem Part.request_frame (p : Part) (n : SlotId) (w : Word) :
    (p.request n w).topo = p.topo ∧ (p.request n w).tbase = p.tbase ∧ (p.request n w).ticks = p.ticks ∧
      (p.request n w).sent = p.sent := by
  unfold Part.request
  split_ifs
  · simp
  · simp
  · split <;> simp

@[simp] theorem Part.paramWrite_frame (p : Part) (n : SlotId) (l : Lanes) (w : Word) :
    (p.paramWrite n l w).hdec = p.hdec ∧ (p.paramWrite n l w).scnt = p.scnt ∧ (p.paramWrite n l w).supv = p.supv ∧
      (p.paramWrite n l w).gen = p.gen ∧ (p.paramWrite n l w).jrnl = p.jrnl ∧ (p.paramWrite n l w).topo = p.topo ∧
      (p.paramWrite n l w).tbase = p.tbase ∧ (p.paramWrite n l w).ticks = p.ticks ∧
      (p.paramWrite n l w).sent = p.sent := by
  simp [Part.paramWrite]

/-! ### JRNL -/

@[simp] theorem Part.consumerJudged_frame (p : Part) (v : Word) (a : Addr) :
    (p.consumerJudged v a).hdec = p.hdec ∧ (p.consumerJudged v a).scnt = p.scnt ∧
      (p.consumerJudged v a).supv = p.supv ∧ (p.consumerJudged v a).gen = p.gen ∧
      (p.consumerJudged v a).slots = p.slots ∧ (p.consumerJudged v a).topo = p.topo ∧
      (p.consumerJudged v a).tbase = p.tbase ∧ (p.consumerJudged v a).ticks = p.ticks ∧
      (p.consumerJudged v a).sent = p.sent := by
  unfold Part.consumerJudged; split <;> simp

@[simp] theorem Part.consumerWrite_frame (p : Part) (l : Lanes) (v : Word) (a : Addr) :
    (p.consumerWrite l v a).hdec = p.hdec ∧ (p.consumerWrite l v a).scnt = p.scnt ∧
      (p.consumerWrite l v a).supv = p.supv ∧ (p.consumerWrite l v a).gen = p.gen ∧
      (p.consumerWrite l v a).slots = p.slots ∧ (p.consumerWrite l v a).topo = p.topo ∧
      (p.consumerWrite l v a).tbase = p.tbase ∧ (p.consumerWrite l v a).ticks = p.ticks ∧
      (p.consumerWrite l v a).sent = p.sent := by
  unfold Part.consumerWrite; split <;> simp

/-! ### TOPO -/

@[simp] theorem Part.acceptCommit_frame (p : Part) (c : BitVec 16) :
    (p.acceptCommit c).gen = p.gen ∧ (p.acceptCommit c).slots = p.slots ∧ (p.acceptCommit c).tbase = p.tbase ∧
      (p.acceptCommit c).ticks = p.ticks ∧ (p.acceptCommit c).sent = p.sent := by
  simp [Part.acceptCommit]

@[simp] theorem Part.refuseCommit_frame (p : Part) (r : CommitCode × Nat) :
    (p.refuseCommit r).hdec = p.hdec ∧ (p.refuseCommit r).scnt = p.scnt ∧ (p.refuseCommit r).supv = p.supv ∧
      (p.refuseCommit r).gen = p.gen ∧ (p.refuseCommit r).slots = p.slots ∧ (p.refuseCommit r).jrnl = p.jrnl ∧
      (p.refuseCommit r).tbase = p.tbase ∧ (p.refuseCommit r).ticks = p.ticks ∧
      (p.refuseCommit r).sent = p.sent := by
  simp [Part.refuseCommit]

@[simp] theorem Part.commit_frame (p : Part) (aps : BitVec 4) (c : BitVec 16) :
    (p.commit aps c).gen = p.gen ∧ (p.commit aps c).slots = p.slots ∧ (p.commit aps c).tbase = p.tbase ∧
      (p.commit aps c).ticks = p.ticks ∧ (p.commit aps c).sent = p.sent := by
  simp only [Part.commit]; split <;> simp

@[simp] theorem Part.topologyWrite_frame (p : Part) (aps : BitVec 4) (i : Place) (l : Lanes) (w : Word) :
    (p.topologyWrite aps i l w).gen = p.gen ∧ (p.topologyWrite aps i l w).slots = p.slots ∧
      (p.topologyWrite aps i l w).tbase = p.tbase ∧ (p.topologyWrite aps i l w).ticks = p.ticks ∧
      (p.topologyWrite aps i l w).sent = p.sent := by
  simp only [Part.topologyWrite]; split <;> simp

@[simp] theorem Part.halt_frame (p : Part) (now : Word) (sum : BitVec 16) :
    (p.halt now sum).supv = p.supv ∧ (p.halt now sum).tbase = p.tbase ∧ (p.halt now sum).ticks = p.ticks ∧
      (p.halt now sum).sent = p.sent := by
  simp [Part.halt]

@[simp] theorem Part.topoSlowTick_frame (p : Part) :
    p.topoSlowTick.supv = p.supv ∧ p.topoSlowTick.tbase = p.tbase ∧ p.topoSlowTick.sent = p.sent := by
  unfold Part.topoSlowTick
  split
  · simp
  · simp only []; split <;> simp

@[simp] theorem Part.corruptShadow_frame (p : Part) (i : Place) (b : Word) :
    (p.corruptShadow i b).hdec = p.hdec ∧ (p.corruptShadow i b).scnt = p.scnt ∧ (p.corruptShadow i b).supv = p.supv ∧
      (p.corruptShadow i b).gen = p.gen ∧ (p.corruptShadow i b).slots = p.slots ∧
      (p.corruptShadow i b).jrnl = p.jrnl ∧ (p.corruptShadow i b).tbase = p.tbase ∧
      (p.corruptShadow i b).ticks = p.ticks ∧ (p.corruptShadow i b).sent = p.sent := by
  unfold Part.corruptShadow; split <;> simp

/-! ### TBASE -/

@[simp] theorem Part.lastTickTaken_frame (p : Part) :
    p.lastTickTaken.scnt = p.scnt ∧ p.lastTickTaken.supv = p.supv ∧ p.lastTickTaken.topo = p.topo ∧
      p.lastTickTaken.tbase = p.tbase ∧ p.lastTickTaken.ticks = p.ticks := by
  simp [Part.lastTickTaken]

@[simp] theorem Part.giveMsTick_frame (p : Part) :
    p.giveMsTick.scnt = p.scnt ∧ p.giveMsTick.supv = p.supv ∧ p.giveMsTick.slots = p.slots ∧
      p.giveMsTick.jrnl = p.jrnl ∧ p.giveMsTick.topo = p.topo ∧ p.giveMsTick.sent = p.sent := by
  simp [Part.giveMsTick]

@[simp] theorem Part.msTick_frame (p : Part) :
    p.msTick.scnt = p.scnt ∧ p.msTick.supv = p.supv ∧ p.msTick.topo = p.topo := by
  simp [Part.msTick]

end Sys2Proof.Machine

/-! SUPPORT. What one step can do to the blocks: one rule for each update that a command or a reference period makes,
so that an invariant is one case for each of them. -/

namespace Sys2Proof.Machine

open Sys2Proof

/-- An update of the blocks while PORST is released, but for the completion of a journal word; `aps` are the straps. -/
inductive Part.Update (aps : BitVec 4) (p : Part) : Part → Prop
  | none : Update aps p p
  | edge (h : HeadId) (y : System) (d : EdgeDir) (period : Nat) : Update aps p (p.edgeAt h y d period)
  | dwell (h : HeadId) : Update aps p (p.examineDwell h)
  | recovery (h : HeadId) : Update aps p ((p.tookRecovered h).takeRecovery h)
  | eventDropped (m : ToScnt) : Update aps p (p.tookScnt m)
  | passage (m : ToScnt) (h : HeadId) (d : Direction) (run : p.running = true) :
      Update aps p ((p.tookScnt m).passage h d)
  | disturbance (m : ToScnt) (h : HeadId) (c : Cause) (run : p.running = true) :
      Update aps p ((p.tookScnt m).disturbAdjacent p.tbase.ms h c)
  | movement (m : ToScnt) (h : HeadId) (run : p.running = true) : Update aps p ((p.tookScnt m).movement h)
  | settleTick : Update aps p p.settleTick
  | supervisionTick (h : HeadId) (a b : Amp) : Update aps p (p.supervisionTick h a b)
  | slowTick : Update aps p p.supvSlowTick
  | staleReport (m : ToSupv) : Update aps p (p.tookStale m)
  | staleTestReport (m : ToSupv) : Update aps p (p.tookStale m).reportTaken
  | reportDropped (m : ToSupv) : Update aps p (p.tookSupv m)
  | testReportDropped (m : ToSupv) : Update aps p (p.tookSupv m).reportTaken
  | report (m : ToSupv) (h : HeadId) (c : ScoreChange) (t : Trigger) (run : p.running = true)
      (ph : p.hdec[h].phase ≠ .test) : Update aps p ((p.tookSupv m).scoreEvent p.tbase.ms h c t .none)
  | testReport (m : ToSupv) (h : HeadId) (c : ScoreChange) (t : Trigger) (run : p.running = true)
      (ph : p.hdec[h].phase ≠ .test) : Update aps p ((p.tookSupv m).reportTaken.scoreEvent p.tbase.ms h c t .none)
  | sample (a b : Amp) : Update aps p (p.takeSample a b)
  | patternStart : Update aps p p.patternStart
  | followWindowClose : Update aps p p.followWindowClose
  | stepDeadline : Update aps p p.stepDeadline
  | midStepSample : Update aps p p.midStepSample
  | answer : Update aps p p.takeAnswer
  | copy : Update aps p p.takeCopy
  | releaseTimeEnd : Update aps p p.releaseTimeEnd
  | recheck : Update aps p p.topoSlowTick
  | corruption (i : Place) (b : Word) : Update aps p (p.corruptShadow i b)
  | violation (a : Addr) (k : ViolationKind) : Update aps p (p.record p.tbase.ms (.violation a k))
  | request (n : SlotId) (w : Word) : Update aps p (p.request n w)
  | paramWrite (n : SlotId) (l : Lanes) (w : Word) : Update aps p (p.paramWrite n l w)
  | consumerWrite (l : Lanes) (v : Word) (a : Addr) : Update aps p (p.consumerWrite l v a)
  | topologyWrite (i : Place) (l : Lanes) (w : Word) (unc : p.topo.mode = .unconfigured) :
      Update aps p (p.topologyWrite aps i l w)
  | startWrite : Update aps p (p.setJrnl (p.jrnl.startWrite p.topo.params.ringCode))
  | msTick : Update aps p p.msTick
  | period (h : p.tbase.period + 1 < Config.periodsPerMs) : Update aps p (p.setTbase p.tbase.count)

/-! ### Accesses -/

/-- A write of the request window that PATH hands on is one update. -/
theorem Part.update_requestWrite (aps : BitVec 4) (p : Part) (off : Nat) (a : Access) :
    p.Update aps (p.requestWrite off a) := by
  unfold Part.requestWrite
  split
  · exact .paramWrite _ _ _
  · unfold Part.commandWrite
    split
    · exact .request _ _
    · exact .violation _ _
  · exact .consumerWrite _ _ _
  · exact .none

/-- An access that PATH accepts makes one update of the blocks. -/
theorem State.update_accept (s : State) (a : Access) : s.part.Update s.path.aps (s.accept a).part := by
  unfold State.accept
  split
  · unfold State.acceptWrite
    split
    · exact .violation _ _
    · exact Part.update_requestWrite _ _ _ _
    · split
      · exact .topologyWrite _ _ _ ‹_›
      · exact .violation _ _
    · exact .violation _ _
    · exact .none
  · unfold State.acceptRead
    split <;> exact .none

/-- An access that the processor presents makes one update of the blocks. -/
theorem State.update_present (s : State) (a : Access) : s.part.Update s.path.aps (s.present a).part := by
  unfold State.present
  split
  · exact .none
  · split
    · split <;> exact .none
    · exact s.update_accept a

/-- The access that waits on the bus makes one update when it is accepted. -/
theorem State.update_next (s : State) : s.part.Update s.path.aps s.next.part := by
  unfold State.next
  split
  · exact .none
  · rename_i a _
    split
    · exact .none
    · exact State.update_accept { s with path := { s.path with waiting := none } } a

/-- The completion of an access makes the update of the access accepted next. -/
theorem State.update_accessComplete (s : State) : s.part.Update s.path.aps s.accessComplete.part := by
  unfold State.accessComplete
  split
  · exact .none
  · rename_i f _
    split
    · exact (s.finish f).update_next
    · exact .none

/-- A grant makes the update of the access that arrives. -/
theorem State.update_portGrant (s : State) (a : Option Access) (c : Claimant) :
    s.part.Update s.path.aps (s.portGrant a c).part := by
  cases a with
  | none => exact .none
  | some a => exact s.update_present a

/-! ### The lines that no update of the blocks moves -/

@[simp] theorem State.accept_lines (s : State) (a : Access) :
    (s.accept a).path.porst = s.path.porst ∧ (s.accept a).pending = s.pending := by
  unfold State.accept
  split
  · unfold State.acceptWrite
    split
    · exact ⟨rfl, rfl⟩
    · exact ⟨rfl, rfl⟩
    · split <;> exact ⟨rfl, rfl⟩
    · exact ⟨rfl, rfl⟩
    · exact ⟨rfl, rfl⟩
  · unfold State.acceptRead
    split <;> exact ⟨rfl, rfl⟩

@[simp] theorem State.present_lines (s : State) (a : Access) :
    (s.present a).path.porst = s.path.porst ∧ (s.present a).pending = s.pending := by
  unfold State.present
  split
  · exact ⟨rfl, rfl⟩
  · split
    · split <;> exact ⟨rfl, rfl⟩
    · exact s.accept_lines a

@[simp] theorem State.accessComplete_lines (s : State) :
    s.accessComplete.path.porst = s.path.porst ∧ s.accessComplete.pending = s.pending := by
  unfold State.accessComplete
  split
  · exact ⟨rfl, rfl⟩
  · split
    · unfold State.next
      split
      · exact ⟨rfl, rfl⟩
      · split
        · exact ⟨rfl, rfl⟩
        · exact State.accept_lines _ _
    · exact ⟨rfl, rfl⟩

@[simp] theorem State.wordComplete_lines (s : State) :
    s.wordComplete.path.porst = s.path.porst ∧ s.wordComplete.pending = s.pending := by
  unfold State.wordComplete
  split <;> exact ⟨rfl, rfl⟩

@[simp] theorem Path.arbitrate_porst (x : Path) (w : Option JournalWord) (c : Claimant) :
    (x.arbitrate w c).porst = x.porst := by
  unfold Path.arbitrate Path.grant Path.grantBoth Path.grantByCount
  split
  · split
    · rfl
    · rfl
    · rfl
    · split_ifs <;> rfl
  · rfl

@[simp] theorem State.portGrant_lines (s : State) (a : Option Access) (c : Claimant) :
    (s.portGrant a c).path.porst = s.path.porst ∧ (s.portGrant a c).pending = s.pending := by
  cases a <;> simp [State.portGrant]

/-! ### The port -/

/-- What an operation does at the port when no journal word starts there: a word there leaves or stays, with no access
beside it, the wait count stays in its range and memory in its form (R132, R133). -/
structure State.PortQuiet (s t : State) : Prop where
  word : t.path.jword = none ∨
    (t.path.jword = s.path.jword ∧ (t.path.flight.any Flight.holds = true → s.path.flight.any Flight.holds = true))
  count : s.path.waitCount ≤ 16 → t.path.waitCount ≤ 16
  mem : Memory.wf s.mem → Memory.wf t.mem

/-- What a command does at the port: the same, or the word that JRNL offers starts there alone (R133, R157). -/
structure State.PortKeeps (s t : State) : Prop where
  word : t.path.jword = none ∨
    (t.path.jword = s.path.jword ∧ (t.path.flight.any Flight.holds = true → s.path.flight.any Flight.holds = true)) ∨
    (t.path.jword = t.part.offered ∧ t.path.flight.any Flight.holds = false)
  count : s.path.waitCount ≤ 16 → t.path.waitCount ≤ 16
  mem : Memory.wf s.mem → Memory.wf t.mem

section
variable {s t u : State}

theorem State.PortQuiet.keeps (h : s.PortQuiet t) : s.PortKeeps t :=
  ⟨h.word.imp_right .inl, h.count, h.mem⟩

theorem State.PortQuiet.trans (h : s.PortQuiet t) (k : t.PortQuiet u) : s.PortQuiet u := by
  refine ⟨?_, fun c => k.count (h.count c), fun m => k.mem (h.mem m)⟩
  obtain e | ⟨e, f⟩ := k.word
  · exact .inl e
  · obtain e' | ⟨e', f'⟩ := h.word
    · exact .inl (e.trans e')
    · exact .inr ⟨e.trans e', fun x => f' (f x)⟩

/-- PATH and memory stay. -/
theorem State.portQuiet_of_path (path : t.path = s.path) (mem : t.mem = s.mem) : s.PortQuiet t := by
  refine ⟨.inr ?_, ?_, ?_⟩
  · rw [path]
    exact ⟨rfl, id⟩
  · rw [path]
    exact id
  · rw [mem]
    exact id

/-- A command of the blocks alone leaves the port. -/
theorem State.portKeeps_withPart (s : State) (p : Part) : s.PortKeeps (s.withPart p) :=
  PortQuiet.keeps (portQuiet_of_path rfl rfl)

theorem State.portQuiet_complete (s : State) (c : Completion) : s.PortQuiet (s.complete c) :=
  ⟨.inr ⟨rfl, id⟩, id, id⟩

/-- An access that waits for the port does not hold it (R124). -/
theorem State.portQuiet_pass (s : State) (a : Access) : s.PortQuiet (s.pass a) :=
  ⟨.inr ⟨rfl, fun k => by simp at k⟩, id, id⟩

theorem State.portQuiet_accept (s : State) (a : Access) : s.PortQuiet (s.accept a) := by
  have blocks (p : Part) : s.PortQuiet (s.withPart p) := portQuiet_of_path rfl rfl
  have kept (k : ViolationKind) : s.PortQuiet (s.keep a k) := (blocks _).trans (State.portQuiet_complete _ _)
  unfold State.accept
  split
  · unfold State.acceptWrite
    split
    · exact kept _
    · exact (blocks _).trans (State.portQuiet_pass _ a)
    · split
      · exact (blocks _).trans (State.portQuiet_pass _ a)
      · exact kept _
    · exact kept _
    · exact s.portQuiet_pass a
  · unfold State.acceptRead
    split
    · exact s.portQuiet_complete _
    · exact s.portQuiet_pass a

theorem State.portQuiet_present (s : State) (a : Access) : s.PortQuiet (s.present a) := by
  have same : s.PortQuiet s := portQuiet_of_path rfl rfl
  unfold State.present
  split
  · exact same
  · split
    · split
      · exact same
      · exact ⟨.inr ⟨rfl, id⟩, id, id⟩
    · exact s.portQuiet_accept a

theorem State.portQuiet_next (s : State) : s.PortQuiet s.next := by
  have same : s.PortQuiet s := portQuiet_of_path rfl rfl
  unfold State.next
  split
  · exact same
  · rename_i a _
    split
    · exact same
    · have gone : s.PortQuiet { s with path := { s.path with waiting := none } } := ⟨.inr ⟨rfl, id⟩, id, id⟩
      exact gone.trans (State.portQuiet_accept _ a)

theorem State.portQuiet_accessComplete (s : State) : s.PortQuiet s.accessComplete := by
  have same : s.PortQuiet s := portQuiet_of_path rfl rfl
  unfold State.accessComplete
  split
  · exact same
  · rename_i f _
    split
    · have finished : s.PortQuiet (s.finish f) := by
        refine ⟨.inr ⟨rfl, fun k => by simp [State.finish] at k⟩, id, fun m => ?_⟩
        simp only [State.finish, memoryAfter]
        split
        · exact Memory.writeAccess_wf _ _ m
        · exact m
      exact finished.trans (State.portQuiet_next _)
    · exact same

theorem State.portQuiet_wordComplete (s : State) : s.PortQuiet s.wordComplete := by
  unfold State.wordComplete
  split
  · exact portQuiet_of_path rfl rfl
  · exact ⟨.inl rfl, id, Memory.writeJournal_wf _ _⟩

/-- The arbiter starts an access or the word that JRNL offers, at a free port (R133). -/
theorem State.PortQuiet.arbitrate (h : s.PortQuiet t) (c : Claimant) :
    s.PortKeeps { t with path := t.path.arbitrate t.part.offered c } := by
  by_cases free : t.path.portFree = true
  swap
  · simp only [Path.arbitrate, if_neg free]
    exact h.keeps
  have none_ : t.path.jword = none ∧ t.path.flight.any Flight.holds = false := by
    simpa [Path.portFree] using free
  simp only [Path.arbitrate, if_pos free]
  have processor : s.PortKeeps { t with path := t.path.startProcessor } := ⟨.inl none_.1, h.count, h.mem⟩
  have journal (w : JournalWord) (e : t.part.offered = some w) :
      s.PortKeeps { t with path := t.path.startJournal w } :=
    ⟨.inr (.inr ⟨e.symm, none_.2⟩), fun _ => Nat.zero_le _, h.mem⟩
  unfold Path.grant
  split
  · exact h.keeps
  · exact processor
  · exact journal _ ‹_›
  · rename_i w _ offer
    unfold Path.grantBoth Path.grantByCount
    split
    · exact processor
    · split
      · exact journal w offer
      · split
        · rename_i low
          exact ⟨.inl none_.1, fun _ => low, h.mem⟩
        · exact journal w offer

theorem State.portKeeps_portGrant (s : State) (a : Option Access) (c : Claimant) : s.PortKeeps (s.portGrant a c) := by
  cases a with
  | none => exact State.PortQuiet.arbitrate (portQuiet_of_path rfl rfl) c
  | some a => exact (s.portQuiet_present a).arbitrate c

end

/-! ### One command -/

/-- The outcomes of a command but those of the reset lines: an update of the blocks, or a journal word that completes;
PORST and the queue stay. -/
def State.Updates (s : State) (o : Host.Outcome State Fault Refusal) : Prop :=
  ∃ t : State, o = .next t ∧ t.path.porst = s.path.porst ∧ t.pending = s.pending ∧ s.PortKeeps t ∧
    (s.part.Update s.path.aps t.part ∨ t = s.wordComplete)

/-- The part that is up makes the update of the command. -/
theorem State.updates_powered (s t : State) (lines : t.path.porst = s.path.porst ∧ t.pending = s.pending)
    (port : s.PortKeeps t) (u : s.part.Update s.path.aps t.part) : s.Updates (s.powered t) := by
  unfold State.powered
  split
  · exact ⟨s, rfl, rfl, rfl, (portQuiet_of_path rfl rfl).keeps, .inl .none⟩
  · exact ⟨t, rfl, lines.1, lines.2, port, .inl u⟩

/-- A journal word that completes makes JRNL go on. -/
theorem State.updates_wordComplete (s : State) : s.Updates (s.powered s.wordComplete) := by
  unfold State.powered
  split
  · exact ⟨s, rfl, rfl, rfl, (portQuiet_of_path rfl rfl).keeps, .inl .none⟩
  · exact ⟨_, rfl, s.wordComplete_lines.1, s.wordComplete_lines.2, s.portQuiet_wordComplete.keeps, .inr rfl⟩

/-- A command of the blocks alone. -/
theorem State.updates_withPart (s : State) (p : Part) (u : s.part.Update s.path.aps p) :
    s.Updates (s.powered (s.withPart p)) := s.updates_powered _ ⟨rfl, rfl⟩ (s.portKeeps_withPart p) u

/-- A command of the blocks that has an effect in one case alone. -/
theorem State.updates_ite (s : State) (p : Part) (c : Prop) [Decidable c] (u : c → s.part.Update s.path.aps p) :
    s.Updates (s.powered (if c then s.withPart p else s)) := by
  by_cases k : c
  · rw [if_pos k]
    exact s.updates_withPart p (u k)
  · rw [if_neg k]
    exact s.updates_powered s ⟨rfl, rfl⟩ (portQuiet_of_path rfl rfl).keeps .none

/-- A command that the processor gives by an access. -/
theorem State.updates_present (s : State) (a : Access) : s.Updates (s.powered (s.present a)) :=
  s.updates_powered _ (s.present_lines a) (s.portQuiet_present a).keeps (s.update_present a)

/-- An event that SCNT takes. -/
theorem State.updates_takeScnt (s : State) (m : ToScnt) (f : Part → Part)
    (u : s.part.running = true → s.part.Update s.path.aps (f (s.part.tookScnt m))) :
    s.Updates (s.takeScnt m f) := by
  refine s.updates_ite _ _ fun _ => ?_
  by_cases run : s.part.running = true
  · rw [if_pos run]
    exact u run
  · rw [if_neg run]
    exact .eventDropped m

/-- A report of HDEC that SUPV takes. -/
theorem State.updates_takeSupv (s : State) (m : ToSupv) (h : HeadId) (c : ScoreChange) (t : Trigger) :
    s.Updates (s.takeSupv m h c t id) := by
  unfold State.takeSupv
  split
  · exact s.updates_withPart _ (.staleReport m)
  · refine s.updates_ite _ _ fun k => ?_
    by_cases run : s.part.running = true
    · rw [if_pos run]
      exact .report m h c t run k.2
    · rw [if_neg run]
      exact .reportDropped m

/-- A report of TGEN that SUPV takes. -/
theorem State.updates_takeSupv_test (s : State) (m : ToSupv) (h : HeadId) (c : ScoreChange) (t : Trigger) :
    s.Updates (s.takeSupv m h c t Part.reportTaken) := by
  unfold State.takeSupv
  split
  · exact s.updates_withPart _ (.staleTestReport m)
  · refine s.updates_ite _ _ fun k => ?_
    by_cases run : s.part.running = true
    · rw [if_pos run]
      exact .testReport m h c t run k.2
    · rw [if_neg run]
      exact .testReportDropped m

/-- The commands of the two reset lines. -/
def isReset : Instr → Bool
  | .porstAssert | .porstRelease _ _ _ | .cpurstAssert | .cpurstRelease => true
  | _ => false

theorem isReset_iff (c : Instr) :
    isReset c = true ↔
      c = .porstAssert ∨ (∃ aps la lb, c = .porstRelease aps la lb) ∨ c = .cpurstAssert ∨ c = .cpurstRelease := by
  constructor
  · intro h
    cases c <;> cases h
    · exact .inl rfl
    · exact .inr (.inl ⟨_, _, _, rfl⟩)
    · exact .inr (.inr (.inl rfl))
    · exact .inr (.inr (.inr rfl))
  · rintro (rfl | ⟨_, _, _, rfl⟩ | rfl | rfl) <;> rfl

/-- Every command but those of the reset lines makes one update of the blocks. -/
theorem exec_updates (c : Instr) (s : State) (hc : isReset c = false) : s.Updates (exec c s) := by
  cases c with
  | edge h y d period => exact s.updates_withPart _ (.edge h y d period)
  | msTick => exact s.updates_withPart _ .msTick
  | dwellLimitReached h => exact s.updates_withPart _ (.dwell h)
  | supervisionTick h a b => exact s.updates_withPart _ (.supervisionTick h a b)
  | recoveryComplete h a b => exact s.updates_ite _ _ fun _ => .supervisionTick h a b
  | recoveryReport h => exact s.updates_ite _ _ fun _ => .recovery h
  | settleTick => exact s.updates_withPart _ .settleTick
  | settleWaitEnd i => exact s.updates_ite _ _ fun _ => .settleTick
  | slowTick k =>
    cases k with
    | supv => exact s.updates_withPart _ .slowTick
    | topo => exact s.updates_withPart _ .recheck
  | restartTimeout h => exact s.updates_ite _ _ fun _ => .slowTick
  | shadowCorruption i b => exact s.updates_withPart _ (.corruption i b)
  | passageEvent h d => exact s.updates_takeScnt _ (·.passage h d) fun run => .passage _ h d run
  | suspectEndEvent h =>
    exact s.updates_takeScnt _ (fun p => p.disturbAdjacent p.tbase.ms h .countSuspect) fun run =>
      .disturbance _ h .countSuspect run
  | movementNotice h => exact s.updates_takeScnt _ (·.movement h) fun run => .movement _ h run
  | unsettledChangeNotice h =>
    exact s.updates_takeScnt _ (fun p => p.disturbAdjacent p.tbase.ms h .countSuspect) fun run =>
      .disturbance _ h .countSuspect run
  | testAbortNotice h =>
    exact s.updates_takeScnt _ (fun p => p.disturbAdjacent p.tbase.ms h .testAbort) fun run =>
      .disturbance _ h .testAbort run
  | separationFaultReport h => exact s.updates_takeSupv _ h _ _
  | glitchReport h => exact s.updates_takeSupv _ h _ _
  | cleanPassageReport h => exact s.updates_takeSupv _ h _ _
  | testPassedReport h => exact s.updates_takeSupv_test _ h _ _
  | testFailedReport h => exact s.updates_takeSupv_test _ h _ _
  | patternStart => exact s.updates_withPart _ .patternStart
  | followWindowClose => exact s.updates_withPart _ .followWindowClose
  | stepDeadline => exact s.updates_withPart _ .stepDeadline
  | midStepSample => exact s.updates_withPart _ .midStepSample
  | sampleRequest a b => exact s.updates_withPart _ (.sample a b)
  | midSampleAnswer => exact s.updates_withPart _ .answer
  | edgeCopy => exact s.updates_withPart _ .copy
  | releaseTimeEnd => exact s.updates_withPart _ .releaseTimeEnd
  | sweepReset n t o k => exact s.updates_present _
  | preparedReset n t o k => exact s.updates_present _
  | headRestart n t o k => exact s.updates_present _
  | headTest n t o k => exact s.updates_present _
  | cancel n t o k => exact s.updates_present _
  | partialCommand n l w => exact s.updates_present _
  | parameterWordWrite n l w => exact s.updates_present _
  | consumerWrite v => exact s.updates_present _
  | topologyWrite i l w => exact s.updates_present _
  | commit v => exact s.updates_present _
  | keptWrite a l w => exact s.updates_present _
  | portGrant a =>
    exact s.updates_powered _ (s.portGrant_lines _ _) (s.portKeeps_portGrant _ _) (s.update_portGrant _ _)
  | memoryAccessComplete =>
    exact s.updates_powered _ s.accessComplete_lines s.portQuiet_accessComplete.keeps s.update_accessComplete
  | recordWriteStart => exact s.updates_withPart _ .startWrite
  | journalWordComplete => exact s.updates_wordComplete
  | haltPendingEntry =>
    show s.Updates (s.powered (if s.freesHaltPlace then s.wordComplete else s))
    split
    · exact s.updates_wordComplete
    · exact s.updates_powered _ ⟨rfl, rfl⟩ (State.portQuiet_of_path rfl rfl).keeps .none
  | porstAssert => cases hc
  | porstRelease a la lb => cases hc
  | cpurstAssert => cases hc
  | cpurstRelease => cases hc
  | commandNotAKind n v t o k => exact s.updates_present _

/-! ### One step -/

/-- What a step does to the blocks and to PORST. -/
inductive State.Stepped (s t : State) : Prop
  | update (same : t.path.porst = s.path.porst) (port : s.PortKeeps t) (u : s.part.Update s.path.aps t.part)
  | wordDone (same : t.path.porst = s.path.porst) (port : s.PortKeeps t) (path : t.path.jword = none)
      (e : t.part = s.part.setJrnl (s.part.jrnl.wordDone s.part.topo.params.ringCode s.part.tbase.ms))
  | porstOn (up : s.path.porst = false) (down : t.path.porst = true) (port : s.PortKeeps t)
      (word : t.path.jword = none) (e : t.part = s.part.abandon)
  | porstOff (down : s.path.porst = true) (port : s.PortKeeps t) (word : t.path.jword = none) (la lb : BitVec 32)
      (e : t.part = Part.powerOn la lb s.part.gen.serial)

/-- A step that leaves PATH, memory and the blocks. -/
theorem State.stepped_self (s : State) : s.Stepped s := .update rfl (portQuiet_of_path rfl rfl).keeps .none

/-- A reference period is an update of the blocks. -/
theorem State.stepped_idle (s : State) : s.Stepped s.idle := by
  unfold State.idle
  split
  · exact s.stepped_self
  · refine .update rfl (s.portKeeps_withPart _) ?_
    simp only [State.withPart_part, Part.idlePeriod]
    split
    · exact .period ‹_›
    · exact .msTick

/-- A write that PORST cuts leaves memory in its form (R168). -/
theorem State.cutWords_mem_wf (s : State) (h : Memory.wf s.mem) : Memory.wf s.cutWords.mem := by
  unfold State.cutWords
  split
  · exact h
  · exact Memory.cutLanes_wf _ _ _ _ h

theorem State.cutWords_path (s : State) : s.cutWords.path = s.path := by
  unfold State.cutWords
  split <;> rfl

/-- The assertion of PORST. -/
theorem State.stepped_porstOn (s : State) : s.Stepped s.porstOn := by
  unfold State.porstOn
  split
  · exact s.stepped_self
  · rename_i up
    exact .porstOn (Bool.eq_false_of_not_eq_true up) rfl ⟨.inl rfl, id, s.cutWords_mem_wf⟩ rfl rfl

/-- A journal word that completes leaves the port, and JRNL goes on. -/
theorem State.wordComplete_cases (s : State) :
    s.wordComplete = s ∨
      (s.wordComplete.part =
          s.part.setJrnl (s.part.jrnl.wordDone s.part.topo.params.ringCode s.part.tbase.ms) ∧
        s.wordComplete.path.jword = none) := by
  unfold State.wordComplete
  split
  · exact .inl rfl
  · exact .inr ⟨rfl, rfl⟩

/-- The release of PORST. -/
theorem State.stepped_porstOff (s : State) (aps : BitVec 4) (la lb : BitVec 32) :
    s.Stepped (s.porstOff aps la lb) := by
  unfold State.porstOff
  split
  · exact .porstOff ‹_› ⟨.inl rfl, fun _ => Nat.zero_le _, id⟩ rfl la lb rfl
  · exact s.stepped_self

/-- The assertion of CPURST. -/
theorem State.stepped_cpurstOn (s : State) : s.Stepped s.cpurstOn := by
  unfold State.cpurstOn
  split
  · exact s.stepped_self
  · split
    · exact .update rfl ⟨.inr (.inl ⟨rfl, id⟩), id, id⟩ .none
    · have dropped : (s.path.flight.map fun f => { f with dropped := true }).any Flight.holds =
          s.path.flight.any Flight.holds := by
        cases s.path.flight <;> rfl
      exact .update rfl ⟨.inr (.inl ⟨rfl, fun k => dropped.symm.trans k⟩), fun _ => Nat.zero_le _, id⟩ .none

/-- What a command does to the blocks and to PORST. -/
theorem exec_stepped (c : Instr) (s t : State) (e : exec c s = .next t) : s.Stepped t := by
  by_cases hc : isReset c = true
  · obtain rfl | ⟨aps, la, lb, rfl⟩ | rfl | rfl := (isReset_iff c).mp hc <;> cases e
    · exact s.stepped_porstOn
    · exact s.stepped_porstOff aps la lb
    · exact s.stepped_cpurstOn
    · exact .update rfl ⟨.inr (.inl ⟨rfl, id⟩), id, id⟩ .none
  · obtain ⟨u, e', same, -, port, up | word⟩ := exec_updates c s (by simpa using hc)
    · obtain rfl : u = t := by rw [e] at e'; cases e'; rfl
      exact .update same port up
    · obtain rfl : u = t := by rw [e] at e'; cases e'; rfl
      obtain idle | ⟨part, jword⟩ := s.wordComplete_cases
      · rw [word, idle]
        exact s.stepped_self
      · rw [← word] at part jword
        exact .wordDone same port jword part

/-- What a step does to the blocks and to PORST. -/
theorem step_stepped (s t : State) (e : step s = .next t) : s.Stepped t := by
  unfold step at e
  split at e
  · cases e
    exact s.stepped_idle
  · have k := exec_stepped _ _ _ e
    cases k with
    | update same port u => exact .update same ⟨port.word, port.count, port.mem⟩ u
    | wordDone same port word e => exact .wordDone same ⟨port.word, port.count, port.mem⟩ word e
    | porstOn up down port word e => exact .porstOn up down ⟨port.word, port.count, port.mem⟩ word e
    | porstOff down port word la lb e => exact .porstOff down ⟨port.word, port.count, port.mem⟩ word la lb e

/-- A property of the blocks that every update keeps, that survives the assertion of PORST and holds at its release, is
kept by every step. -/
theorem step_keeps (P : Part → Prop) (upd : ∀ aps p q, P p → Part.Update aps p q → P q)
    (word : ∀ p j, P p → P (Part.setJrnl p j)) (off : ∀ p, P p → P p.abandon)
    (on : ∀ la lb n, P (Part.powerOn la lb n)) (s t : State) (hs : P s.part) (e : step s = .next t) : P t.part := by
  cases step_stepped s t e with
  | update _ _ u => exact upd _ _ _ hs u
  | wordDone _ _ _ e => exact e ▸ word _ _ hs
  | porstOn _ _ _ _ e => exact e ▸ off _ hs
  | porstOff _ _ _ la lb e => exact e ▸ on la lb _

/-- The same of a property that is claimed while PORST is released. -/
theorem step_keeps_up (P : Part → Prop) (upd : ∀ aps p q, P p → Part.Update aps p q → P q)
    (word : ∀ p j, P p → P (Part.setJrnl p j)) (on : ∀ la lb n, P (Part.powerOn la lb n)) (s t : State)
    (hs : s.path.porst = false → P s.part) (e : step s = .next t) (up : t.path.porst = false) : P t.part := by
  cases step_stepped s t e with
  | update same _ u => exact upd _ _ _ (hs (same ▸ up)) u
  | wordDone same _ _ e => exact e ▸ word _ _ (hs (same ▸ up))
  | porstOn _ down _ _ _ => rw [up] at down; cases down
  | porstOff _ _ _ la lb e => exact e ▸ on la lb _

end Sys2Proof.Machine

/-! SUPPORT. What a score event can do to a head and what a command word can do to the blocks, once for each. -/

namespace Sys2Proof.Machine

open Sys2Proof

/-! ### Health states -/

theorem Health.inService_iff (x : Health) : x.inService = true ↔ x = .healthy ∨ x = .marginal ∨ x = .degraded := by
  cases x <;> simp [Health.inService]

/-- A score event takes a head in service to a state in service or to FAILED (R76). -/
theorem healthAfter_inService (x : Health) (n : Nat) (hx : x.inService = true) :
    (healthAfter x n).inService = true ∨ healthAfter x n = .failed := by
  obtain rfl | rfl | rfl := x.inService_iff.mp hx <;> simp only [healthAfter] <;> split_ifs <;> simp [Health.inService]

/-! ### Score events -/

/-- The record of a head with a new score and the health that follows (R76). -/
def HeadHealth.withScore (v : HeadHealth) (n : Nat) : HeadHealth :=
  { v with score := n, health := healthAfter v.health n }

/-- What a score event makes of the blocks: nothing, a new score with a health that stays or changes, or the failure of
the head (R74, R76, R77, R80). -/
inductive Part.Scored (p : Part) (now : Word) (h : HeadId) (c : ScoreChange) (t : Trigger) (y : Option System) :
    Part → Prop
  | discarded (out : p.supv[h].health.inService = false ∨ c.apply p.supv[h].score = p.supv[h].score) :
      Scored p now h c t y p
  | same (serv : p.supv[h].health.inService = true) (new : c.apply p.supv[h].score ≠ p.supv[h].score)
      (eq : healthAfter p.supv[h].health (c.apply p.supv[h].score) = p.supv[h].health) :
      Scored p now h c t y (p.setSupv h (p.supv[h].withScore (c.apply p.supv[h].score)))
  | changed (serv : p.supv[h].health.inService = true) (new : c.apply p.supv[h].score ≠ p.supv[h].score)
      (ne : healthAfter p.supv[h].health (c.apply p.supv[h].score) ≠ p.supv[h].health)
      (nf : healthAfter p.supv[h].health (c.apply p.supv[h].score) ≠ .failed) :
      Scored p now h c t y
        ((p.setSupv h (p.supv[h].withScore (c.apply p.supv[h].score))).record now
          (.head h p.supv[h].health (healthAfter p.supv[h].health (c.apply p.supv[h].score))
            (c.apply p.supv[h].score) t y))
  | failed (serv : p.supv[h].health.inService = true) (new : c.apply p.supv[h].score ≠ p.supv[h].score)
      (f : healthAfter p.supv[h].health (c.apply p.supv[h].score) = .failed) :
      Scored p now h c t y
        (((p.setSupv h (p.supv[h].withScore (c.apply p.supv[h].score))).record now
          (.head h p.supv[h].health .failed (c.apply p.supv[h].score) t y)).headFails now h)

theorem Part.scored_scoreEvent (p : Part) (now : Word) (h : HeadId) (c : ScoreChange) (t : Trigger)
    (y : Option System) : p.Scored now h c t y (p.scoreEvent now h c t y) := by
  unfold Part.scoreEvent
  by_cases serv : p.supv[h].health.inService = true
  · rw [if_neg (by simpa using serv)]
    by_cases new : c.apply p.supv[h].score = p.supv[h].score
    · rw [if_pos new]
      exact .discarded (.inr new)
    rw [if_neg new]
    simp only [Part.healthChange]
    by_cases eq : healthAfter p.supv[h].health (c.apply p.supv[h].score) = p.supv[h].health
    · rw [if_pos eq]
      exact .same serv new eq
    rw [if_neg eq]
    by_cases f : healthAfter p.supv[h].health (c.apply p.supv[h].score) = .failed
    · rw [if_pos f]
      have k := Part.Scored.failed (p := p) (now := now) (t := t) (y := y) serv new f
      rw [← f] at k
      exact k
    · rw [if_neg f]
      exact .changed serv new eq f
  · rw [if_pos (by simpa using serv)]
    exact .discarded (.inl (by simpa using serv))

/-- A score event of the scan is a score event or none (R71). -/
theorem Part.scanSystem_cases (p : Part) (now : Word) (h : HeadId) (y : System) (c : AmpClass) :
    p.scanSystem now h y c = p ∨ ∃ e t, p.scanSystem now h y c = p.scoreEvent now h e t (some y) := by
  unfold Part.scanSystem
  split
  · exact .inl rfl
  · exact .inr ⟨_, _, rfl⟩

/-! ### Command words -/

/-- The word passes steps 2 to 8 for slot n (R141 to R144). -/
structure Part.Screened (p : Part) (n : SlotId) (w : Word) : Prop where
  free : p.slots[n].busy = false
  run : p.running = true
  kind : (cmdKind w).toNat ≤ 5
  served : p.targetInService n w = true
  alone : p.targetBusy n w = false

/-- What REQE makes of a full-width command word (R141 to R146). -/
inductive Part.Requested (p : Part) (n : SlotId) (w : Word) : Part → Prop
  | ignored : Requested p n w p
  | slotBusy (busy : p.slots[n].busy = true) :
      Requested p n w (p.record p.tbase.ms (requestDetail n w .slotBusy))
  | refused (free : p.slots[n].busy = false) (r : Result) : Requested p n w (p.refuse n w r)
  | sweep (i : SectionId) (k : p.Screened n w) (kind : cmdKind w = 1#8) (target : targetSection (cmdTarget w) = some i)
      (ok : p.sweepRefusal i = none) : Requested p n w ((p.acceptSweep n i).startSlot n w .waiting)
  | prepared (i : SectionId) (k : p.Screened n w) (kind : cmdKind w = 2#8)
      (target : targetSection (cmdTarget w) = some i) (ok : p.preparedRefusal i = none) :
      Requested p n w ((p.acceptPrepared i).doneOk n w)
  | restart (h : HeadId) (k : p.Screened n w) (kind : cmdKind w = 3#8) (target : targetHead (cmdTarget w) = some h)
      (ok : p.restartRefusal h = none) : Requested p n w ((p.acceptRestart n h).startSlot n w .waiting)
  | test (h : HeadId) (k : p.Screened n w) (kind : cmdKind w = 4#8) (target : targetHead (cmdTarget w) = some h)
      (ok : p.testRefusal h = none) : Requested p n w ((p.acceptTest n h).startSlot n w .active)
  | cancel (m : SlotId) (k : p.Screened n w) (kind : cmdKind w = 5#8) (target : targetSlot (cmdTarget w) = some m)
      (busy : p.slots[m].busy = true) :
      Requested p n w (((p.cancelWork m).finishSlot p.tbase.ms m .cancelled .cancelled).doneOk n w)

/-- Without an early refusal the word is screened (R141). -/
theorem Part.screened_of_earlyRefusal (p : Part) (n : SlotId) (w : Word) (free : p.slots[n].busy = false)
    (ok : p.earlyRefusal n w = none) : p.Screened n w ∧ cmdCheck w = ~~~ cmdToken w := by
  unfold Part.earlyRefusal at ok
  split_ifs at ok with run check kind served alone
  exact ⟨⟨free, by simpa using run, by omega, by simpa using served, by simpa using alone⟩, by simpa using check⟩

theorem Part.requested_dispatch (p : Part) (n : SlotId) (w : Word) (h0 : cmdKind w ≠ 0#8) (k : p.Screened n w) :
    p.Requested n w (p.dispatch n w) := by
  unfold Part.dispatch
  split_ifs with k1 k2 k3 k4
  · unfold Part.dispatchSweep
    split
    · exact .refused k.free _
    · split
      · exact .refused k.free _
      · exact .sweep _ k k1 ‹_› ‹_›
  · unfold Part.dispatchPrepared
    split
    · exact .refused k.free _
    · split
      · exact .refused k.free _
      · exact .prepared _ k k2 ‹_› ‹_›
  · unfold Part.dispatchRestart
    split
    · exact .refused k.free _
    · split
      · exact .refused k.free _
      · exact .restart _ k k3 ‹_› ‹_›
  · unfold Part.dispatchTest
    split
    · exact .refused k.free _
    · split
      · exact .refused k.free _
      · exact .test _ k k4 ‹_› ‹_›
  · have k5 : cmdKind w = 5#8 := by
      have := k.kind
      bv_omega
    unfold Part.dispatchCancel
    split
    · exact .refused k.free _
    · split
      · exact .refused k.free _
      · rename_i m target busy
        exact .cancel m k k5 target (by simpa using busy)

theorem Part.requested_request (p : Part) (n : SlotId) (w : Word) : p.Requested n w (p.request n w) := by
  unfold Part.request
  split_ifs with h0 busy
  · exact .ignored
  · exact .slotBusy busy
  · have free : p.slots[n].busy = false := by simpa using busy
    split
    · exact .refused free _
    · rename_i ok
      exact p.requested_dispatch n w h0 (p.screened_of_earlyRefusal n w free ok).1

/-! ### Conditions of acceptance -/

/-- A sweep is accepted at a disturbed section whose heads are ready (R56). -/
theorem Part.sweepRefusal_eq_none (p : Part) (i : SectionId) :
    p.sweepRefusal i = none ↔ p.scnt[i].state = .disturbed ∧ p.headsReady i = true := by
  unfold Part.sweepRefusal
  split_ifs <;> simp_all

/-- A prepared reset is accepted at a disturbed section that permits it, with a cause that allows it, not moved, whose
heads are ready, idle and not standing (R62). -/
theorem Part.preparedRefusal_eq_none (p : Part) (i : SectionId) :
    p.preparedRefusal i = none ↔
      p.scnt[i].state = .disturbed ∧ (p.sectionEntry i).prepared = true ∧
        p.scnt[i].cause.any Cause.preparable = true ∧ p.scnt[i].moved = false ∧ p.headsReady i = true ∧
        p.headsQuiet i = true := by
  unfold Part.preparedRefusal
  split_ifs <;> grind

/-- A restart is accepted at a FAILED head (R82). -/
theorem Part.restartRefusal_eq_none (p : Part) (h : HeadId) :
    p.restartRefusal h = none ↔ p.supv[h].health = .failed := by
  unfold Part.restartRefusal
  split_ifs <;> simp_all

/-- A test is accepted at a used head in service, in IDLE and not standing, beside CLEAR sections, with TGEN free (R93). -/
theorem Part.testRefusal_eq_none (p : Part) (h : HeadId) :
    p.testRefusal h = none ↔
      p.used h = true ∧ p.supv[h].health.inService = true ∧ p.hdec[h].phase = .idle ∧ p.hdec[h].standing = false ∧
        p.sidesClear h = true ∧ p.gen.state = .idle ∧ p.gen.reportPending = false := by
  unfold Part.testRefusal
  split_ifs <;> grind

/-! ### Folds -/

/-- What holds at first and every step of a fold keeps, holds in the end. -/
theorem foldl_keeps {α β : Type} (P : α → Prop) (f : α → β → α) (l : List β)
    (hf : ∀ a, P a → ∀ b ∈ l, P (f a b)) (a : α) (ha : P a) : P (l.foldl f a) :=
  List.foldlRecOn l f ha hf

/-! ### Ticks that SCNT and SUPV take -/

/-- SCNT examines its sections at the oldest settle tick in RUNNING; otherwise the tick is gone (R32, R37). -/
theorem Part.settleTick_cases (p : Part) :
    (p.ticks.scnt = [] ∧ p.settleTick = p) ∨
      ∃ v rest, p.ticks.scnt = v :: rest ∧
        p.settleTick =
          if p.running then (p.setTicks { p.ticks with scnt := rest }).settleAll v
          else p.setTicks { p.ticks with scnt := rest } := by
  unfold Part.settleTick
  cases e : p.ticks.scnt with
  | nil => exact .inl ⟨rfl, rfl⟩
  | cons v rest => exact .inr ⟨v, rest, rfl, rfl⟩

/-- The blocks with the classes of a head's two samples stored (R70). -/
def Part.classed (p : Part) (h : HeadId) (a b : Amp) : Part :=
  p.setSupv h
    { p.supv[h] with classA := some (p.topo.params.ampClass a), classB := some (p.topo.params.ampClass b) }

/-- The blocks after the score events of a head's scan, before its quiet check (R70, R71). -/
def Part.scanned (p : Part) (now : Word) (h : HeadId) (a b : Amp) : Part :=
  ((p.classed h a b).scanSystem now h .sysA (p.topo.params.ampClass a)).scanSystem now h .sysB
    (p.topo.params.ampClass b)

/-- A head's update is its scan, with the quiet check behind it in a recovery (R70, R83). -/
theorem Part.superviseHead_eq (p : Part) (now : Word) (h : HeadId) (a b : Amp) :
    p.superviseHead now h a b =
      if p.supv[h].health = .recovering then (p.scanned now h a b).quietCheck now h else p.scanned now h a b := rfl

/-- What storing the classes and every score event keep, a scan keeps. -/
theorem Part.scanned_keeps (P : Part → Prop) (now : Word) (h : HeadId)
    (scored : ∀ p c t y, P p → P (p.scoreEvent now h c t y)) (p : Part) (a b : Amp) (cl : P (p.classed h a b)) :
    P (p.scanned now h a b) := by
  have system (q : Part) (y : System) (c : AmpClass) (hq : P q) : P (q.scanSystem now h y c) := by
    obtain e | ⟨_, _, e⟩ := q.scanSystem_cases now h y c <;> rw [e]
    · exact hq
    · exact scored _ _ _ _ hq
  exact system _ _ _ (system _ _ _ cl)

/-- A supervision tick updates one head and goes on, is gone, or is not taken yet (R70, R166). -/
theorem Part.supervisionTick_cases (p : Part) (h : HeadId) (a b : Amp) :
    p.supervisionTick h a b = p ∨ p.supervisionTick h a b = p.supvTickDone ∨
      ∃ v, p.running = true ∧ p.nextSupvTick = some v ∧ p.nextScan p.ticks.scanNext = some h ∧
        p.supervisionTick h a b = (p.superviseHead v h a b).passOn h := by
  unfold Part.supervisionTick
  split
  · exact .inl rfl
  · split
    · exact .inr (.inl rfl)
    · split
      · exact .inr (.inl rfl)
      · rename_i v e run _ g e'
        split
        · rename_i hg
          subst hg
          exact .inr (.inr ⟨v, by simpa using run, e, e', rfl⟩)
        · exact .inl rfl

/-- The pass over the heads goes on or ends: SUPV's place in it and its oldest tick alone change (R70). -/
theorem Part.passOn_cases (p : Part) (h : HeadId) :
    p.passOn h = p.setTicks { p.ticks with supv := p.ticks.supv.tail, scanNext := 0 } ∨
      p.passOn h = p.setTicks { p.ticks with scanNext := h.val + 1 } := by
  unfold Part.passOn
  split
  · exact .inl rfl
  · exact .inr rfl

/-- SUPV counts its recoveries at the oldest slow tick in RUNNING; otherwise the tick is gone, or is not taken yet (R85,
R91, R166). -/
theorem Part.supvSlowTick_cases (p : Part) :
    p.supvSlowTick = p ∨
      ∃ v, p.nextSlowTick = some v ∧
        p.supvSlowTick =
          if p.running then
            allHeads.foldl (fun q h => q.slowHead v h)
              (p.setTicks { p.ticks with slowSupv := p.ticks.slowSupv.tail })
          else p.setTicks { p.ticks with slowSupv := p.ticks.slowSupv.tail } := by
  unfold Part.supvSlowTick
  cases e : p.nextSlowTick with
  | none => exact .inl rfl
  | some v => exact .inr ⟨v, rfl, rfl⟩

/-! ### Copies of edges -/

/-- What TGEN makes of a copy (R96, R102, R104). -/
inductive Part.Judged (p : Part) (c : EdgeCopy) : Part → Prop
  | ignored (e : p.gen.target ≠ some c.h ∨ p.gen.state = .idle) : Judged p c p
  | expected (target : p.gen.target = some c.h) (st : p.gen.state = .running) (e : p.gen.expects c = true) :
      Judged p c (p.setGen { p.gen with response := true })
  | aborts (target : p.gen.target = some c.h) (st : p.gen.state = .running) (e : p.gen.expects c = false) :
      Judged p c (p.testAborts c.h)
  | releasedA (target : p.gen.target = some c.h) (st : p.gen.state = .releasing) (d : c.d = .falling)
      (y : c.y = .sysA) (e : p.gen.releaseA = true) : Judged p c (p.setGen { p.gen with releaseA := false })
  | releasedB (target : p.gen.target = some c.h) (st : p.gen.state = .releasing) (d : c.d = .falling)
      (y : c.y = .sysB) (e : p.gen.releaseB = true) : Judged p c (p.setGen { p.gen with releaseB := false })
  | releaseAborts (target : p.gen.target = some c.h) (st : p.gen.state = .releasing)
      (e : c.d = .rising ∨ (c.y = .sysA ∧ p.gen.releaseA = false) ∨ (c.y = .sysB ∧ p.gen.releaseB = false)) :
      Judged p c (p.releaseAborts c.h .unexpectedEdge)

theorem Part.judged_judgeCopy (p : Part) (c : EdgeCopy) : p.Judged c (p.judgeCopy c) := by
  unfold Part.judgeCopy
  split
  · exact .ignored (.inl ‹_›)
  · rename_i target
    have target := Decidable.of_not_not target
    split
    · exact .ignored (.inr ‹_›)
    · rename_i st
      split
      · exact .expected target st ‹_›
      · rename_i e
        exact .aborts target st (Bool.eq_false_of_not_eq_true e)
    · rename_i st
      split
      · rename_i d y
        split
        · exact .releasedA target st d y ‹_›
        · rename_i e
          exact .releaseAborts target st (.inr (.inl ⟨y, Bool.eq_false_of_not_eq_true e⟩))
      · rename_i d y
        split
        · exact .releasedB target st d y ‹_›
        · rename_i e
          exact .releaseAborts target st (.inr (.inr ⟨y, Bool.eq_false_of_not_eq_true e⟩))
      · rename_i d
        exact .releaseAborts target st (.inl d)

/-- TGEN takes the oldest copy in flight (R96). -/
theorem Part.takeCopy_cases (p : Part) :
    (p.sent.copies = [] ∧ p.takeCopy = p) ∨
      ∃ c rest, p.sent.copies = c :: rest ∧
        p.takeCopy = (p.setSent { p.sent with copies := rest }).judgeCopy c := by
  unfold Part.takeCopy
  cases e : p.sent.copies with
  | nil => exact .inl ⟨rfl, rfl⟩
  | cons c rest => exact .inr ⟨c, rest, rfl, rfl⟩

/-! ### Commits, the re-check and power-on -/

/-- The shadow after a write of the topology window (R107). -/
def Part.merged (p : Part) (i : Place) (l : Lanes) (w : Word) : Part :=
  p.setTopo { p.topo with shadow := Shadow.merge p.topo.shadow i l w }

/-- A write of the topology window merges into the shadow, and may be a commit that is accepted or refused (R107, R112,
R113). -/
theorem Part.topologyWrite_cases (p : Part) (aps : BitVec 4) (i : Place) (l : Lanes) (w : Word) :
    p.topologyWrite aps i l w = p.merged i l w ∨
      (commitJudged i l w = true ∧
        (judgeCommit (p.merged i l w).topo.shadow aps (w.extractLsb' 16 16)).1 = .accepted ∧
        p.topologyWrite aps i l w = (p.merged i l w).acceptCommit (w.extractLsb' 16 16)) ∨
      (commitJudged i l w = true ∧
        (judgeCommit (p.merged i l w).topo.shadow aps (w.extractLsb' 16 16)).1 ≠ .accepted ∧
        p.topologyWrite aps i l w =
          (p.merged i l w).refuseCommit (judgeCommit (p.merged i l w).topo.shadow aps (w.extractLsb' 16 16))) := by
  have e : p.topologyWrite aps i l w =
      if commitJudged i l w then (p.merged i l w).commit aps (w.extractLsb' 16 16) else p.merged i l w := rfl
  rw [e]
  split
  · rename_i k
    unfold Part.commit
    by_cases acc : (judgeCommit (p.merged i l w).topo.shadow aps (w.extractLsb' 16 16)).1 = .accepted
    · exact .inr (.inl ⟨k, acc, if_pos acc⟩)
    · exact .inr (.inr ⟨k, acc, if_neg acc⟩)
  · exact .inl rfl

/-- The re-check of a slow tick: the tick is gone, and in RUNNING a wrong sum halts the part (R119, R120). -/
theorem Part.topoSlowTick_cases (p : Part) :
    (p.ticks.slowTopo = [] ∧ p.topoSlowTick = p) ∨
      ∃ v rest, p.ticks.slowTopo = v :: rest ∧
        p.topoSlowTick =
          if p.running && decide (Shadow.sum p.topo.shadow ≠ p.topo.check) then
            (p.setTicks { p.ticks with slowTopo := rest }).halt v (Shadow.sum p.topo.shadow)
          else p.setTicks { p.ticks with slowTopo := rest } := by
  unfold Part.topoSlowTick
  cases e : p.ticks.slowTopo with
  | nil => exact .inl ⟨rfl, rfl⟩
  | cons v rest => exact .inr ⟨v, rest, rfl, rfl⟩

section
variable (p : Part) (check sum : BitVec 16) (now : Word) (la lb : BitVec 32) (n : Nat)

theorem Part.acceptCommit_hdec_get (h : HeadId) :
    (p.acceptCommit check).hdec[h] =
      p.hdec[h].atCommit (Params.ofShadow p.topo.shadow).heads[h].used p.tbase.ms := by
  simp [Part.acceptCommit]

theorem Part.acceptCommit_scnt_get (i : SectionId) :
    (p.acceptCommit check).scnt[i] = SectionRec.atCommit (Params.ofShadow p.topo.shadow) i := by
  simp [Part.acceptCommit]

theorem Part.acceptCommit_supv_get (h : HeadId) :
    (p.acceptCommit check).supv[h] = HeadHealth.atCommit (Params.ofShadow p.topo.shadow).heads[h].used := by
  simp [Part.acceptCommit]

theorem Part.halt_hdec_get (h : HeadId) : (p.halt now sum).hdec[h] = p.hdec[h].toOff := by
  simp [Part.halt]

theorem Part.halt_scnt_get (i : SectionId) : (p.halt now sum).scnt[i] = p.scnt[i].atHalt := by
  simp [Part.halt]

theorem Part.halt_slots_get (m : SlotId) : (p.halt now sum).slots[m] = p.slots[m].atHalt := by
  simp [Part.halt]

theorem Part.powerOn_hdec_get (h : HeadId) :
    (Part.powerOn la lb n).hdec[h] = HeadDecoder.powerOn (la.getLsbD h.val) (lb.getLsbD h.val) := by
  simp [Part.powerOn]

theorem Part.powerOn_scnt_get (i : SectionId) : (Part.powerOn la lb n).scnt[i] = SectionRec.powerOn := by
  simp [Part.powerOn]

theorem Part.powerOn_supv_get (h : HeadId) : (Part.powerOn la lb n).supv[h] = HeadHealth.powerOn := by
  simp [Part.powerOn]

theorem Part.powerOn_slots_get (m : SlotId) : (Part.powerOn la lb n).slots[m] = Slot.powerOn := by
  simp [Part.powerOn]

end

end Sys2Proof.Machine

/-! SUPPORT. The section record fits its state: every operation of a record keeps that, every update of the blocks makes
a section's record by one of them, and so every step keeps it. -/

namespace Sys2Proof.Machine

open Sys2Proof

/-! ### One record -/

section
variable {x : SectionRec}

theorem SectionRec.fits_disturb (c : Cause) (m : Bool) : (x.disturb c m).fits := by
  simp [SectionRec.fits, SectionRec.disturb]

/-- The change count, the settle remaining and the bounding heads have no part in it. -/
theorem SectionRec.fits_congr {a : SectionRec} (h : x.fits) (st : a.state = x.state) (n : a.count = x.count)
    (c : a.cause = x.cause) (m : a.moved = x.moved) (s : a.slot = x.slot) : a.fits := by
  unfold SectionRec.fits
  rw [st, n, c, m, s]
  exact h

theorem SectionRec.fits_counted (old : SectionRec) (h : x.fits) : (SectionRec.counted old x).fits :=
  fits_congr h rfl rfl rfl rfl rfl

theorem SectionRec.fits_remaining (n : Nat) (h : x.fits) : ({ x with remaining := n } : SectionRec).fits :=
  fits_congr h rfl rfl rfl rfl rfl

/-- A disturbed record may be marked as moved. -/
theorem SectionRec.fits_moved (h : x.fits) (d : x.state = .disturbed) :
    ({ x with moved := true } : SectionRec).fits := by
  simp only [SectionRec.fits, d] at h ⊢
  exact h

theorem SectionRec.fits_markMoved (h : x.fits) : x.markMoved.fits := by
  unfold SectionRec.markMoved
  split
  · exact fits_moved h ‹_›
  · exact h

theorem SectionRec.fits_disturbOrMark (c : Cause) (h : x.fits) : (x.disturbOrMark c).fits := by
  unfold SectionRec.disturbOrMark
  split
  · exact fits_moved h ‹_›
  · exact h
  · exact fits_disturb _ _

/-- An enter keeps it: a count goes up to 1023 at most (R34). -/
theorem SectionRec.fits_enter (h : x.fits) : x.enter.fits := by
  cases st : x.state with
  | clear => rw [enter_of_clear st]; simp_all [SectionRec.fits]
  | occupied =>
    rw [enter_of_holdsCount (holdsCount_of_occupied st)]
    split
    · simp_all [SectionRec.fits, maxCount]
    · exact fits_disturb _ _
  | sweeping =>
    rw [enter_of_holdsCount (holdsCount_of_sweeping st)]
    split
    · simp_all [SectionRec.fits, maxCount]
    · exact fits_disturb _ _
  | settling =>
    by_cases hs : x.slot = none
    · rw [enter_of_settling_without_slot st hs]; simp_all [SectionRec.fits]
    · rw [enter_of_settling_with_slot st hs]; simp_all [SectionRec.fits]
  | sweepWait => rw [enter_of_sweepWait st]; simp_all [SectionRec.fits]
  | disturbed => rw [enter_of_disturbed st]; exact fits_moved h st
  | unused => simpa only [SectionRec.enter, st] using h

/-- A leave keeps it: a count goes down to 1 at least, and the last axle opens the settle wait (R35). -/
theorem SectionRec.fits_leave (code : Nat) (h : x.fits) : (x.leave code).fits := by
  cases st : x.state with
  | clear => rw [leave_of_holdsNone (holdsNone_of_clear st)]; exact fits_disturb _ _
  | settling => rw [leave_of_holdsNone (holdsNone_of_settling st)]; exact fits_disturb _ _
  | sweepWait => rw [leave_of_holdsNone (holdsNone_of_sweepWait st)]; exact fits_disturb _ _
  | occupied =>
    rw [leave_of_holdsCount (holdsCount_of_occupied st)]
    split
    · simp_all [SectionRec.fits]; omega
    · simp_all [SectionRec.fits]
  | sweeping =>
    rw [leave_of_holdsCount (holdsCount_of_sweeping st)]
    split
    · simp_all [SectionRec.fits]; omega
    · simp_all [SectionRec.fits]
  | disturbed => rw [leave_of_disturbed st]; exact fits_moved h st
  | unused => simpa only [SectionRec.leave, st] using h

/-- The end of the settle wait (R38). -/
theorem SectionRec.fits_cleared (h : x.fits) (st : x.state = .settling) :
    ({ x with state := .clear, slot := none } : SectionRec).fits := by
  simp only [SectionRec.fits, st] at h ⊢
  exact ⟨h.1, h.2.1, h.2.2, trivial⟩

theorem SectionRec.fits_powerOn : SectionRec.powerOn.fits := ⟨rfl, rfl, rfl, rfl⟩

theorem SectionRec.fits_atCommit (c : Params) (i : SectionId) : (SectionRec.atCommit c i).fits := by
  unfold SectionRec.atCommit
  split
  · simp [SectionRec.fits, SectionRec.powerOn]
  · exact fits_powerOn

theorem SectionRec.fits_atHalt (h : x.fits) : x.atHalt.fits := by
  unfold SectionRec.atHalt
  split
  · exact h
  · exact fits_congr (fits_disturb (x := x) .internal false) rfl rfl rfl rfl rfl

end

/-! ### All records -/

/-- The invariant of O53 as a record, which no proof unfolds by accident. -/
structure SectionsFit (p : Part) : Prop where
  fit : ∀ i : SectionId, p.scnt[i].fits

theorem sectionsOk_iff (p : Part) : SectionsOk p ↔ SectionsFit p := ⟨.mk, SectionsFit.fit⟩

section
variable {p q : Part}

/-- Only SCNT has a part in it. -/
theorem SectionsFit.congr (hp : SectionsFit p) (e : q.scnt = p.scnt) : SectionsFit q := by
  refine ⟨fun i => ?_⟩
  rw [e]
  exact hp.fit i

/-- The records one by one. -/
theorem SectionsFit.of_records (f : SectionId → SectionRec) (e : ∀ i : SectionId, q.scnt[i] = f i)
    (hf : ∀ i, (f i).fits) : SectionsFit q := by
  refine ⟨fun i => ?_⟩
  rw [e]
  exact hf i

theorem SectionsFit.setScnt (hp : SectionsFit p) (i : SectionId) {x : SectionRec} (hx : x.fits) :
    SectionsFit (p.setScnt i x) := by
  refine ⟨fun j => ?_⟩
  rw [Part.setScnt_get]
  split
  · exact hx
  · exact hp.fit j

theorem SectionsFit.updateSection (hp : SectionsFit p) (now : Word) (i : SectionId) {x : SectionRec} (hx : x.fits) :
    SectionsFit (p.updateSection now i x) := by
  refine ⟨fun j => ?_⟩
  rw [Part.updateSection_get]
  split
  · exact SectionRec.fits_counted _ hx
  · exact hp.fit j

theorem SectionsFit.applySections (hp : SectionsFit p) (now : Word) (l : List (SectionId × SectionRec))
    (hl : ∀ e ∈ l, e.2.fits) : SectionsFit (p.applySections now l) := by
  have updated : SectionsFit (l.foldl (fun q e => q.updateSection now e.1 e.2) p) :=
    List.foldlRecOn l _ hp fun q hq e he => hq.updateSection now e.1 (hl e he)
  exact List.foldlRecOn l _ updated fun q hq e _ => hq.congr (by simp)

theorem SectionsFit.disturbAdjacent (hp : SectionsFit p) (now : Word) (h : HeadId) (c : Cause) :
    SectionsFit (p.disturbAdjacent now h c) := by
  refine hp.applySections now _ fun e he => ?_
  obtain ⟨i, -, rfl⟩ := List.mem_map.mp he
  exact SectionRec.fits_disturbOrMark c (hp.fit i)

theorem SectionsFit.crossed (hp : SectionsFit p) (i : SectionId) (b : Bool) : (p.crossed i b).2.fits := by
  unfold Part.crossed
  cases b
  · exact SectionRec.fits_leave _ (hp.fit i)
  · exact SectionRec.fits_enter (hp.fit i)

theorem SectionsFit.passage (hp : SectionsFit p) (h : HeadId) (d : Direction) : SectionsFit (p.passage h d) := by
  refine hp.applySections _ _ fun e he => ?_
  rcases List.mem_append.mp he with he | he <;> obtain ⟨i, -, rfl⟩ := List.mem_map.mp he <;> exact hp.crossed i _

theorem SectionsFit.movement (hp : SectionsFit p) (h : HeadId) : SectionsFit (p.movement h) :=
  List.foldlRecOn _ _ hp fun _ hq i _ => hq.setScnt i (SectionRec.fits_markMoved (hq.fit i))

theorem SectionsFit.settleSection (hp : SectionsFit p) (now : Word) (i : SectionId) :
    SectionsFit (p.settleSection now i) := by
  unfold Part.settleSection
  split_ifs with st idle ended
  · exact hp
  · exact hp.setScnt i (SectionRec.fits_remaining _ (hp.fit i))
  · have k := hp.updateSection now i (SectionRec.fits_cleared (hp.fit i) (Decidable.of_not_not st))
    simp only [Part.waitEnds]
    split
    · exact k
    · exact k.congr (by simp)
  · exact hp.setScnt i (SectionRec.fits_remaining _ (hp.fit i))

theorem SectionsFit.settleAll (hp : SectionsFit p) (now : Word) : SectionsFit (p.settleAll now) := by
  unfold Part.settleAll
  generalize allSections = l
  exact foldl_keeps SectionsFit _ l (fun _ hq i _ => hq.settleSection now i) p hp

theorem SectionsFit.settleTick (hp : SectionsFit p) : SectionsFit p.settleTick := by
  obtain ⟨-, e⟩ | ⟨v, rest, -, e⟩ := p.settleTick_cases <;> rw [e]
  · exact hp
  · split
    · refine SectionsFit.settleAll ?_ v
      exact hp.congr rfl
    · exact hp.congr rfl

theorem SectionsFit.headFails (hp : SectionsFit p) (now : Word) (h : HeadId) : SectionsFit (p.headFails now h) :=
  (hp.congr (q := (p.staleReports h).headOff now h) (by simp)).disturbAdjacent now h .headFailed

theorem SectionsFit.scoreEvent (hp : SectionsFit p) (now : Word) (h : HeadId) (c : ScoreChange) (t : Trigger)
    (y : Option System) : SectionsFit (p.scoreEvent now h c t y) := by
  have k := p.scored_scoreEvent now h c t y
  generalize p.scoreEvent now h c t y = q at k ⊢
  cases k with
  | discarded _ => exact hp
  | same _ _ _ => exact hp.congr rfl
  | changed _ _ _ _ => exact hp.congr (by simp)
  | failed serv new f => exact (hp.congr (by simp)).headFails now h

theorem SectionsFit.supervisionTick (hp : SectionsFit p) (h : HeadId) (a b : Amp) :
    SectionsFit (p.supervisionTick h a b) := by
  obtain e | e | ⟨v, -, -, -, e⟩ := p.supervisionTick_cases h a b <;> rw [e]
  · exact hp
  · exact hp.congr (by simp)
  · have scanned : SectionsFit (p.scanned v h a b) :=
      Part.scanned_keeps SectionsFit v h (fun _ c t y hq => hq.scoreEvent v h c t y) p a b
        (hp.congr rfl)
    have supervised : SectionsFit (p.superviseHead v h a b) := by
      rw [Part.superviseHead_eq]
      split
      · exact scanned.congr (by simp)
      · exact scanned
    exact supervised.congr (by simp)

theorem SectionsFit.testAborts (hp : SectionsFit p) (h : HeadId) : SectionsFit (p.testAborts h) := by
  have recorded : SectionsFit (((p.setGen p.gen.toIdle).leaveTest h).record p.tbase.ms
      (.test h p.gen.dir .abort (recordStep p.gen.step) (some .unexpectedEdge))) := hp.congr (by simp)
  exact (recorded.disturbAdjacent p.tbase.ms h .testAbort).congr (by simp [Part.testAborts])

theorem SectionsFit.takeCopy (hp : SectionsFit p) : SectionsFit p.takeCopy := by
  obtain ⟨-, e⟩ | ⟨c, rest, -, e⟩ := p.takeCopy_cases <;> rw [e]
  · exact hp
  · have kept : SectionsFit (p.setSent { p.sent with copies := rest }) := hp.congr rfl
    have k := (p.setSent { p.sent with copies := rest }).judged_judgeCopy c
    generalize (p.setSent { p.sent with copies := rest }).judgeCopy c = q at k ⊢
    cases k with
    | aborts _ _ _ => exact kept.testAborts c.h
    | _ => exact kept.congr (by simp)

theorem SectionsFit.request (hp : SectionsFit p) (n : SlotId) (w : Word) : SectionsFit (p.request n w) := by
  have k := p.requested_request n w
  generalize p.request n w = q at k ⊢
  cases k with
  | ignored => exact hp
  | slotBusy _ => exact hp.congr (by simp)
  | refused _ _ => exact hp.congr (by simp)
  | sweep i _ _ _ ok =>
    refine (hp.updateSection p.tbase.ms i ?_).congr (Part.startSlot_frame _ _ _ _).2.1
    simp [SectionRec.fits]
  | prepared i _ _ _ ok =>
    refine (hp.updateSection p.tbase.ms i ?_).congr (Part.doneOk_frame _ _ _).2.1
    obtain ⟨st, -⟩ := (p.preparedRefusal_eq_none i).mp ok
    have fit := hp.fit i
    simp only [SectionRec.fits, st] at fit
    exact ⟨rfl, rfl, rfl, fit.2.2⟩
  | restart h _ _ _ _ => exact hp.congr (by simp)
  | test h _ _ _ _ => exact hp.congr (by simp)
  | cancel m _ _ _ _ =>
    have work : SectionsFit (p.cancelWork m) := by
      unfold Part.cancelWork
      split_ifs
      · unfold Part.cancelSweep
        split
        · exact hp
        · exact hp.updateSection _ _ (SectionRec.fits_disturb _ _)
      · exact hp.congr (by simp)
      · exact hp.congr (by simp)
    exact work.congr (by simp)

theorem SectionsFit.of_commit (c : Params) (e : ∀ i : SectionId, q.scnt[i] = SectionRec.atCommit c i) :
    SectionsFit q := of_records _ e (SectionRec.fits_atCommit c)

theorem SectionsFit.topologyWrite (hp : SectionsFit p) (aps : BitVec 4) (i : Place) (l : Lanes) (w : Word) :
    SectionsFit (p.topologyWrite aps i l w) := by
  obtain e | ⟨-, -, e⟩ | ⟨-, -, e⟩ := p.topologyWrite_cases aps i l w <;> rw [e]
  · exact hp.congr rfl
  · exact .of_commit _ (Part.acceptCommit_scnt_get _ _)
  · exact hp.congr rfl

theorem SectionsFit.halt (hp : SectionsFit p) (now : Word) (sum : BitVec 16) : SectionsFit (p.halt now sum) :=
  of_records _ (p.halt_scnt_get sum now) fun i => SectionRec.fits_atHalt (hp.fit i)

theorem SectionsFit.topoSlowTick (hp : SectionsFit p) : SectionsFit p.topoSlowTick := by
  obtain ⟨-, e⟩ | ⟨v, rest, -, e⟩ := p.topoSlowTick_cases <;> rw [e]
  · exact hp
  · split
    · refine SectionsFit.halt ?_ _ _
      exact hp.congr rfl
    · exact hp.congr rfl

end

/-- Every update of the blocks keeps it: those that write SCNT one by one, the others by their frame. -/
theorem SectionsFit.update {aps : BitVec 4} {p q : Part} (hp : SectionsFit p) (u : p.Update aps q) : SectionsFit q := by
  cases u with
  | passage m h d _ => exact (hp.congr rfl : SectionsFit (p.tookScnt m)).passage h d
  | disturbance m h c _ => exact (hp.congr rfl : SectionsFit (p.tookScnt m)).disturbAdjacent _ h c
  | movement m h _ => exact (hp.congr rfl : SectionsFit (p.tookScnt m)).movement h
  | settleTick => exact hp.settleTick
  | supervisionTick h a b => exact hp.supervisionTick h a b
  | report m h c t _ _ => exact (hp.congr rfl : SectionsFit (p.tookSupv m)).scoreEvent _ h c t none
  | testReport m h c t _ _ => exact (hp.congr (by simp)).scoreEvent _ h c t none
  | copy => exact hp.takeCopy
  | recheck => exact hp.topoSlowTick
  | request n w => exact hp.request n w
  | topologyWrite i l w _ => exact hp.topologyWrite _ i l w
  | _ => exact hp.congr (by simp)

/-- Settles O53: the updates that write SCNT make each record by an operation that fits; the others leave SCNT. -/
theorem sectionsInvariant : Obligations.SectionsInvariant := by
  intro s t hs e
  rw [sectionsOk_iff] at hs ⊢
  refine step_keeps SectionsFit (fun _ _ _ hp u => hp.update u) (fun p j hp => hp.congr rfl)
    (fun p hp => hp.congr rfl) (fun la lb n => ?_) s t hs e
  exact .of_records _ (Part.powerOn_scnt_get la lb n) fun _ => SectionRec.fits_powerOn

end Sys2Proof.Machine

/-! SUPPORT. The counters run from the same periods and every tick given fell on a multiple of its period: the updates
that count or give, and those that take a tick; the others leave TBASE and the ticks. -/

namespace Sys2Proof.Machine

open Sys2Proof

/-- Settles O1: by the definition of a step. -/
theorem stepRunsFrontCommand : Obligations.StepRunsFrontCommand := by
  intro c rest s e
  simp [step, e]

/-- Settles O2: one update of the blocks for every command but the reset lines, which leave the queue too. -/
theorem everyCommandCompletesAndKeepsQueue : Obligations.EveryCommandCompletesAndKeepsQueue := by
  intro c s
  by_cases hc : isReset c = true
  · obtain rfl | ⟨aps, la, lb, rfl⟩ | rfl | rfl := (isReset_iff c).mp hc <;> refine ⟨_, rfl, ?_⟩
    · simp only [State.porstOn, State.cutWords]
      split_ifs
      · rfl
      · split <;> rfl
    · simp only [State.porstOff]
      split <;> rfl
    · simp only [State.cpurstOn]
      split_ifs <;> rfl
    · rfl
  · obtain ⟨t, e, -, kept, -⟩ := exec_updates c s (by simpa using hc)
    exact ⟨t, e, kept⟩

/-! ### The counters -/

/-- The counters run from the same periods (R165). -/
structure Timebase.InStep (t : Timebase) : Prop where
  period : t.period < 8000
  us : t.us = t.ms * 1000#32 + BitVec.ofNat 32 (t.period / 8)

theorem Timebase.InStep.tick {t : Timebase} (h : t.InStep) : t.tick.InStep := by
  have := h.period
  refine ⟨by simp [Timebase.tick], ?_⟩
  simp only [Timebase.tick, h.us, Config.periodsPerUs]
  apply BitVec.eq_of_toNat_eq
  simp only [BitVec.toNat_add, BitVec.toNat_mul, BitVec.toNat_ofNat]
  omega

theorem Timebase.InStep.count {t : Timebase} (h : t.InStep) (hp : t.period + 1 < 8000) : t.count.InStep := by
  refine ⟨hp, ?_⟩
  simp only [Timebase.count, h.us, Config.periodsPerUs]
  split
  · apply BitVec.eq_of_toNat_eq
    simp only [BitVec.toNat_add, BitVec.toNat_mul, BitVec.toNat_ofNat]
    omega
  · have e : (t.period + 1) / 8 = t.period / 8 := by omega
    rw [e]

theorem Timebase.InStep.advanceTo {t : Timebase} (h : t.InStep) (n : Nat) : (t.advanceTo n).InStep := by
  unfold Timebase.advanceTo
  split
  · rename_i k
    simp only [Config.periodsPerMs] at k
    refine ⟨k.2, ?_⟩
    simp only [h.us, Config.periodsPerUs]
    apply BitVec.eq_of_toNat_eq
    simp only [BitVec.toNat_add, BitVec.toNat_mul, BitVec.toNat_ofNat]
    omega
  · exact h

theorem Timebase.InStep.powerOn : Timebase.powerOn.InStep := ⟨by decide, by decide⟩

/-! ### The ticks -/

/-- Every tick given fell on a multiple of its period (R166). -/
structure Ticks.OnTime (t : Ticks) : Prop where
  supv : ∀ v ∈ t.supv, v.toNat % 8 = 0
  scnt : ∀ v ∈ t.scnt, v.toNat % 64 = 0
  slowSupv : ∀ v ∈ t.slowSupv, v.toNat % 512 = 0
  slowTopo : ∀ v ∈ t.slowTopo, v.toNat % 512 = 0

theorem mem_giveAt {n : Nat} {ms : Word} {l : List Word} (hl : ∀ v ∈ l, v.toNat % n = 0) :
    ∀ v ∈ giveAt n ms l, v.toNat % n = 0 := by
  unfold giveAt
  split
  · rename_i k
    intro v hv
    rcases List.mem_append.mp hv with hv | hv
    · exact hl v hv
    · rw [List.mem_singleton.mp hv]
      exact k
  · exact hl

theorem Ticks.OnTime.give {t : Ticks} (h : t.OnTime) (ms : Word) : (t.give ms).OnTime :=
  ⟨mem_giveAt h.supv, mem_giveAt h.scnt, mem_giveAt h.slowSupv, mem_giveAt h.slowTopo⟩

/-- A tick that is taken leaves the others as they were given. -/
theorem Ticks.OnTime.of_subset {t u : Ticks} (h : t.OnTime) (supv : u.supv ⊆ t.supv) (scnt : u.scnt ⊆ t.scnt)
    (slowSupv : u.slowSupv ⊆ t.slowSupv) (slowTopo : u.slowTopo ⊆ t.slowTopo) : u.OnTime :=
  ⟨fun v hv => h.supv v (supv hv), fun v hv => h.scnt v (scnt hv), fun v hv => h.slowSupv v (slowSupv hv),
    fun v hv => h.slowTopo v (slowTopo hv)⟩

theorem Ticks.OnTime.none : Ticks.none.OnTime := by
  constructor <;> simp [Ticks.none]

/-- Any update that takes a tick leaves the others; only the ms tick gives one. -/
theorem Part.Update.ticks {aps : BitVec 4} {p q : Part} (u : p.Update aps q) :
    q.ticks = p.ticks.give q.tbase.ms ∨
      (q.ticks.supv ⊆ p.ticks.supv ∧ q.ticks.scnt ⊆ p.ticks.scnt ∧ q.ticks.slowSupv ⊆ p.ticks.slowSupv ∧
        q.ticks.slowTopo ⊆ p.ticks.slowTopo) := by
  cases u with
  | msTick => exact .inl (by simp [Part.msTick, Part.giveMsTick])
  | settleTick =>
    right
    obtain ⟨-, e⟩ | ⟨v, rest, given, e⟩ := p.settleTick_cases <;> rw [e]
    · simp
    · split <;> simp [given]
  | supervisionTick h a b =>
    right
    obtain e | e | ⟨v, -, -, -, e⟩ := p.supervisionTick_cases h a b <;> rw [e]
    · simp
    · simp [Part.supvTickDone, List.tail_subset]
    · obtain e' | e' := (p.superviseHead v h a b).passOn_cases h <;> rw [e'] <;> simp [List.tail_subset]
  | slowTick =>
    right
    obtain e | ⟨v, -, e⟩ := p.supvSlowTick_cases <;> rw [e]
    · simp
    · split <;> simp [List.tail_subset]
  | recheck =>
    right
    obtain ⟨-, e⟩ | ⟨v, rest, given, e⟩ := p.topoSlowTick_cases <;> rw [e]
    · simp
    · split <;> simp [given]
  | _ => exact .inr (by simp)

/-- The counters tick, count or go on to the period of an edge; the other updates leave TBASE. -/
theorem Part.Update.tbase {aps : BitVec 4} {p q : Part} (u : p.Update aps q) (h : p.tbase.InStep) :
    q.tbase.InStep := by
  cases u with
  | msTick => simpa [Part.msTick, Part.giveMsTick] using h.tick
  | period k => exact h.count k
  | edge hd y d n =>
    unfold Part.edgeAt
    split
    · exact h
    · simpa using h.advanceTo n
  | _ => simpa using h

/-- The invariant of O58 by its two parts. -/
theorem timeOk_iff (p : Part) : TimeOk p ↔ p.tbase.InStep ∧ p.ticks.OnTime := by
  constructor
  · rintro ⟨h1, h2, h3, h4, h5, h6⟩
    exact ⟨⟨h1, h2⟩, ⟨h3, h4, h5, h6⟩⟩
  · rintro ⟨⟨h1, h2⟩, ⟨h3, h4, h5, h6⟩⟩
    exact ⟨h1, h2, h3, h4, h5, h6⟩

theorem timeOk_reset {p : Part} (b : p.tbase = Timebase.powerOn) (t : p.ticks = Ticks.none) : TimeOk p := by
  rw [timeOk_iff, b, t]
  exact ⟨.powerOn, .none⟩

/-- Settles O58: the ms tick counts and gives, the other updates count less or take. -/
theorem timeInvariant : Obligations.TimeInvariant := by
  refine step_keeps TimeOk (fun aps p q hp u => ?_) (fun p j hp => hp) (fun p _ => timeOk_reset rfl rfl)
    (fun la lb n => timeOk_reset rfl rfl)
  rw [timeOk_iff] at hp ⊢
  refine ⟨u.tbase hp.1, ?_⟩
  obtain e | ⟨supv, scnt, slowSupv, slowTopo⟩ := u.ticks
  · rw [e]
    exact hp.2.give _
  · exact hp.2.of_subset supv scnt slowSupv slowTopo

end Sys2Proof.Machine

/-! SUPPORT. A head's score goes with its health, the recovery items with RECOVERING: every operation of SUPV keeps
that, and no other block writes SUPV. -/

namespace Sys2Proof.Machine

open Sys2Proof

/-! ### One record -/

theorem ScoreChange.apply_le (c : ScoreChange) {n : Nat} (h : n ≤ 255) : c.apply n ≤ 255 := by
  cases c <;> simp only [ScoreChange.apply] <;> omega

section
variable {v w : HeadHealth}

/-- The classes have no part in it. -/
theorem HeadHealth.agrees.congr (hv : v.agrees) (st : w.health = v.health) (n : w.score = v.score)
    (q : w.quiet = v.quiet) (c : w.restartCount = v.restartCount) (r : w.refTimes = v.refTimes)
    (s : w.restartSlot = v.restartSlot) : w.agrees := by
  unfold HeadHealth.agrees
  rw [st, n, q, c, r, s]
  exact hv

/-- A head in service holds a score below 224, and no recovery item. -/
theorem HeadHealth.agrees.of_inService (hv : v.agrees) (serv : v.health.inService = true) :
    v.score < 224 ∧ v.quiet = 0 ∧ v.restartCount = 0 ∧ v.refTimes = none ∧ v.restartSlot = none := by
  obtain ⟨score, -, rest⟩ := hv
  obtain st | st | st := v.health.inService_iff.mp serv <;> simp only [st] at score rest <;>
    exact ⟨by omega, rest (by decide)⟩

/-- A score event keeps score and health together (R76). -/
theorem HeadHealth.agrees.withScore (hv : v.agrees) (serv : v.health.inService = true) (c : ScoreChange) :
    (v.withScore (c.apply v.score)).agrees := by
  obtain ⟨low, quiet, count, ref, slot⟩ := hv.of_inService serv
  have bound := c.apply_le (n := v.score) (by omega)
  have rest : (v.withScore (c.apply v.score)).quiet < 250 ∧
      ((v.withScore (c.apply v.score)).health ≠ .recovering →
        v.quiet = 0 ∧ v.restartCount = 0 ∧ v.refTimes = none ∧ v.restartSlot = none) :=
    ⟨by simp [HeadHealth.withScore, quiet], fun _ => ⟨quiet, count, ref, slot⟩⟩
  refine ⟨?_, rest⟩
  simp only [HeadHealth.withScore]
  generalize c.apply v.score = n at bound
  obtain st | st | st := v.health.inService_iff.mp serv <;> rw [st] <;> simp only [healthAfter] <;> split_ifs <;>
    simp only [] <;> omega

theorem HeadHealth.agrees_endRecovery_healthy : (v.endRecovery .healthy 0).agrees := by
  simp [HeadHealth.agrees, HeadHealth.endRecovery]

theorem HeadHealth.agrees.endRecovery_failed (hv : v.agrees) (st : v.health = .recovering) :
    (v.endRecovery .failed v.score).agrees := by
  obtain ⟨score, -, -⟩ := hv
  simp only [st] at score
  exact ⟨score, by simp [HeadHealth.endRecovery]⟩

/-- In a recovery the counts and the reference edge times are free, the quiet count below 250. -/
theorem HeadHealth.agrees.recovering (hv : v.agrees) (st : v.health = .recovering ∨ v.health = .failed)
    (new : w.health = .recovering) (score : w.score = v.score) (quiet : w.quiet < 250) : w.agrees := by
  obtain ⟨old, -, -⟩ := hv
  refine ⟨?_, quiet, fun k => absurd new k⟩
  rw [new, score]
  obtain st | st := st <;> simpa only [st] using old

theorem HeadHealth.agrees_powerOn : HeadHealth.powerOn.agrees := by simp [HeadHealth.agrees, HeadHealth.powerOn]

theorem HeadHealth.agrees_atCommit (used : Bool) : (HeadHealth.atCommit used).agrees := by
  cases used <;> simp [HeadHealth.agrees, HeadHealth.atCommit, HeadHealth.powerOn]

end

/-! ### Which heads a score event or a recovery writes -/

section
variable (p : Part) (now : Word) (h : HeadId)

theorem Part.recoveryDone_supv_get (g : HeadId) :
    (p.recoveryDone now h).supv[g] = if h = g then p.supv[h].endRecovery .healthy 0 else p.supv[g] := by
  simp [Part.recoveryDone, Vector.getElem_set, Fin.ext_iff]

theorem Part.restartTimesOut_supv_get (g : HeadId) :
    (p.restartTimesOut now h).supv[g] =
      if h = g then p.supv[h].endRecovery .failed p.supv[h].score else p.supv[g] := by
  simp [Part.restartTimesOut, Vector.getElem_set, Fin.ext_iff]

/-- A score event writes one head, by the score that follows (R74). -/
theorem Part.scoreEvent_supv_get (c : ScoreChange) (t : Trigger) (y : Option System) (g : HeadId) :
    (p.scoreEvent now h c t y).supv[g] =
      if h = g ∧ p.supv[h].health.inService = true ∧ c.apply p.supv[h].score ≠ p.supv[h].score then
        p.supv[h].withScore (c.apply p.supv[h].score)
      else p.supv[g] := by
  have k := p.scored_scoreEvent now h c t y
  generalize p.scoreEvent now h c t y = q at k ⊢
  cases k with
  | discarded out =>
    rw [if_neg]
    rintro ⟨-, serv, new⟩
    exact out.elim (fun o => by rw [o] at serv; cases serv) new
  | same serv new _ => rw [Part.setSupv_get]; simp only [serv, new, ne_eq, not_false_eq_true, and_true]
  | changed serv new _ _ =>
    rw [Part.record_supv, Part.setSupv_get]; simp only [serv, new, ne_eq, not_false_eq_true, and_true]
  | failed serv new _ =>
    rw [(Part.headFails_frame _ _ _).1, Part.record_supv, Part.setSupv_get]
    simp only [serv, new, ne_eq, not_false_eq_true, and_true]

end

/-- The head a part's records name, with the first of an accepted cancel of a restart (R86). -/
theorem Part.cancelRestart_cases (p : Part) (n : SlotId) :
    p.cancelRestart n = p ∨
      ∃ h : HeadId, p.supv[h].restartSlot = some n ∧
        p.cancelRestart n =
          (p.setSupv h (p.supv[h].endRecovery .failed p.supv[h].score)).record p.tbase.ms
            (.head h .recovering .failed p.supv[h].score .restartCancelled none) := by
  unfold Part.cancelRestart
  split
  · exact .inl rfl
  · rename_i h e
    exact .inr ⟨h, by simpa using List.find?_some e, rfl⟩

/-! ### All records -/

/-- The invariant of O55 as a record, which no proof unfolds by accident. -/
structure HealthFits (p : Part) : Prop where
  agree : ∀ h : HeadId, p.supv[h].agrees

theorem healthOk_iff (p : Part) : HealthOk p ↔ HealthFits p := ⟨.mk, HealthFits.agree⟩

section
variable {p q : Part}

theorem HealthFits.of_records (f : HeadId → HeadHealth) (e : ∀ h : HeadId, q.supv[h] = f h)
    (hf : ∀ h, (f h).agrees) : HealthFits q := by
  refine ⟨fun h => ?_⟩
  rw [e]
  exact hf h

/-- Only SUPV has a part in it. -/
theorem HealthFits.congr (hp : HealthFits p) (e : q.supv = p.supv) : HealthFits q :=
  of_records (fun h => p.supv[h]) (fun h => by rw [e]) hp.agree

/-- One head is written. -/
theorem HealthFits.set (hp : HealthFits p) (h : HeadId) {v : HeadHealth} (hv : v.agrees)
    (e : ∀ g : HeadId, q.supv[g] = if h = g then v else p.supv[g]) : HealthFits q := by
  refine of_records _ e fun g => ?_
  split
  · exact hv
  · exact hp.agree g

theorem HealthFits.setSupv (hp : HealthFits p) (h : HeadId) {v : HeadHealth} (hv : v.agrees) :
    HealthFits (p.setSupv h v) := hp.set h hv (p.setSupv_get h · v)

theorem HealthFits.scoreEvent (hp : HealthFits p) (now : Word) (h : HeadId) (c : ScoreChange) (t : Trigger)
    (y : Option System) : HealthFits (p.scoreEvent now h c t y) := by
  refine of_records _ (p.scoreEvent_supv_get now h c t y) fun g => ?_
  split
  · rename_i k
    exact (hp.agree h).withScore k.2.1 c
  · exact hp.agree g

theorem HealthFits.recoveryDone (hp : HealthFits p) (now : Word) (h : HeadId) : HealthFits (p.recoveryDone now h) :=
  hp.set h HeadHealth.agrees_endRecovery_healthy (p.recoveryDone_supv_get now h)

/-- The quiet count stops below 250: the check that would bring it there ends the recovery (R84). -/
theorem HealthFits.quietCheck (hp : HealthFits p) (now : Word) (h : HeadId) (st : p.supv[h].health = .recovering) :
    HealthFits (p.quietCheck now h) := by
  simp only [Part.quietCheck]
  generalize (if quietNow p.hdec[h] p.supv[h] = true then p.supv[h].quiet + 1 else 0) = n
  split
  · refine hp.set h (v := p.supv[h].endRecovery .healthy 0) HeadHealth.agrees_endRecovery_healthy fun g => ?_
    rw [Part.recoveryDone_supv_get, Part.setSupv_get, Part.setSupv_get, if_pos rfl]
    split <;> rfl
  · rename_i low
    simp only [Config.quietGoal] at low
    exact hp.setSupv h ((hp.agree h).recovering (.inl st) st rfl (by simpa using low))

theorem HealthFits.classed (hp : HealthFits p) (h : HeadId) (a b : Amp) : HealthFits (p.classed h a b) :=
  hp.setSupv h ((hp.agree h).congr rfl rfl rfl rfl rfl rfl)

/-- A scan of a head in recovery changes no health: its score events are discarded (R74). -/
theorem Part.scanned_health_of_recovering (p : Part) (now : Word) (h : HeadId) (a b : Amp)
    (st : p.supv[h].health = .recovering) : (p.scanned now h a b).supv[h].health = .recovering := by
  refine Part.scanned_keeps (fun q => q.supv[h].health = .recovering) now h (fun q c t y hq => ?_) p a b ?_
  · rw [Part.scoreEvent_supv_get, hq, if_neg (by simp [Health.inService])]
    exact hq
  · simpa [Part.classed] using st

theorem HealthFits.supervisionTick (hp : HealthFits p) (h : HeadId) (a b : Amp) :
    HealthFits (p.supervisionTick h a b) := by
  obtain e | e | ⟨v, -, -, -, e⟩ := p.supervisionTick_cases h a b <;> rw [e]
  · exact hp
  · exact hp.congr (by simp)
  · have scanned : HealthFits (p.scanned v h a b) :=
      Part.scanned_keeps HealthFits v h (fun _ c t y hq => hq.scoreEvent v h c t y) p a b (hp.classed h a b)
    have supervised : HealthFits (p.superviseHead v h a b) := by
      rw [Part.superviseHead_eq]
      split
      · rename_i st
        exact scanned.quietCheck v h (p.scanned_health_of_recovering v h a b st)
      · exact scanned
    exact supervised.congr (by simp)

theorem HealthFits.slowHead (hp : HealthFits p) (now : Word) (h : HeadId) : HealthFits (p.slowHead now h) := by
  simp only [Part.slowHead]
  split_ifs with st limit
  · exact hp
  · exact hp.set h ((hp.agree h).endRecovery_failed (Decidable.of_not_not st))
      (p.restartTimesOut_supv_get now h)
  · have st := Decidable.of_not_not st
    exact hp.setSupv h ((hp.agree h).recovering (.inl st) st rfl (hp.agree h).2.1)

theorem HealthFits.supvSlowTick (hp : HealthFits p) : HealthFits p.supvSlowTick := by
  obtain e | ⟨v, -, e⟩ := p.supvSlowTick_cases <;> rw [e]
  · exact hp
  · have kept : HealthFits (p.setTicks { p.ticks with slowSupv := p.ticks.slowSupv.tail }) := hp.congr rfl
    split
    · exact foldl_keeps HealthFits _ _ (fun _ hq h _ => hq.slowHead v h) _ kept
    · exact kept

theorem HealthFits.acceptRestart (hp : HealthFits p) (n : SlotId) (h : HeadId) (st : p.supv[h].health = .failed) :
    HealthFits (p.acceptRestart n h) :=
  hp.setSupv h ((hp.agree h).recovering (.inr st) rfl rfl (Nat.zero_lt_succ _))

theorem HealthFits.cancelRestart (hp : HealthFits p) (n : SlotId) : HealthFits (p.cancelRestart n) := by
  obtain e | ⟨h, slot, e⟩ := p.cancelRestart_cases n <;> rw [e]
  · exact hp
  · have st : p.supv[h].health = .recovering := Decidable.by_contra fun k => by
      have := ((hp.agree h).2.2 k).2.2.2
      rw [slot] at this
      cases this
    exact hp.set h ((hp.agree h).endRecovery_failed st) fun g => by
      rw [Part.record_supv, Part.setSupv_get]

theorem HealthFits.request (hp : HealthFits p) (n : SlotId) (w : Word) : HealthFits (p.request n w) := by
  have k := p.requested_request n w
  generalize p.request n w = q at k ⊢
  cases k with
  | restart h _ _ _ ok =>
    exact (hp.acceptRestart n h ((p.restartRefusal_eq_none h).mp ok)).congr (by simp)
  | cancel m _ _ _ _ =>
    have work : HealthFits (p.cancelWork m) := by
      unfold Part.cancelWork
      split_ifs
      · exact hp.congr (by simp)
      · exact hp.cancelRestart m
      · exact hp.congr (by simp)
    exact work.congr (by simp)
  | _ => exact hp.congr (by simp)

theorem HealthFits.topologyWrite (hp : HealthFits p) (aps : BitVec 4) (i : Place) (l : Lanes) (w : Word) :
    HealthFits (p.topologyWrite aps i l w) := by
  obtain e | ⟨-, -, e⟩ | ⟨-, -, e⟩ := p.topologyWrite_cases aps i l w <;> rw [e]
  · exact hp.congr rfl
  · exact of_records _ (Part.acceptCommit_supv_get _ _) fun h => HeadHealth.agrees_atCommit _
  · exact hp.congr rfl

/-- Every update of the blocks keeps it: those that write SUPV one by one, the others by their frame. -/
theorem HealthFits.update {aps : BitVec 4} (hp : HealthFits p) (u : p.Update aps q) : HealthFits q := by
  cases u with
  | supervisionTick h a b => exact hp.supervisionTick h a b
  | slowTick => exact hp.supvSlowTick
  | report m h c t _ _ => exact (hp.congr rfl : HealthFits (p.tookSupv m)).scoreEvent _ h c t none
  | testReport m h c t _ _ =>
    exact (hp.congr rfl : HealthFits (p.tookSupv m).reportTaken).scoreEvent _ h c t none
  | request n w => exact hp.request n w
  | topologyWrite i l w _ => exact hp.topologyWrite _ i l w
  | _ => exact hp.congr (by simp)

end

/-- Settles O55: the operations of SUPV keep score and health together; the other updates leave SUPV. -/
theorem healthInvariant : Obligations.HealthInvariant := by
  intro s t hs e
  rw [healthOk_iff] at hs ⊢
  refine step_keeps HealthFits (fun _ _ _ hp u => hp.update u) (fun p j hp => hp.congr rfl)
    (fun p hp => hp.congr rfl) (fun la lb n => ?_) s t hs e
  exact .of_records _ (Part.powerOn_supv_get la lb n) fun _ => HeadHealth.agrees_powerOn

end Sys2Proof.Machine

/-! SUPPORT. The report of an owner to the slot it carries, and an event applied to some sections in one update: what
the sections, the slots and the journal are afterwards. -/

namespace Sys2Proof.Machine

open Sys2Proof

/-! ### While the part counts -/

/-- JRNL takes records: the mode is RUNNING and JRNL is active (R153, R162). -/
structure Part.Counts (p : Part) : Prop where
  mode : p.topo.mode = .running
  active : p.jrnl.active = true

theorem State.counting.counts {s : State} (h : s.counting) : s.part.Counts := ⟨h.2.1, h.2.2⟩

theorem Part.Counts.running {p : Part} (h : p.Counts) : p.running = true := by simp [Part.running, h.mode]

theorem Part.running_iff (p : Part) : p.running = true ↔ p.topo.mode = .running := by simp [Part.running]

/-- It goes by the mode and by JRNL's being active. -/
theorem Part.Counts.congr {p q : Part} (h : p.Counts) (t : q.topo = p.topo) (a : q.jrnl.active = p.jrnl.active) :
    q.Counts := ⟨t ▸ h.mode, a ▸ h.active⟩

theorem Part.Counts.record_jrnl {p : Part} (h : p.Counts) (now : Word) (d : Detail) :
    (p.record now d).jrnl = p.jrnl.take p.topo.params.ringCode now d := Part.record_jrnl p now d h.mode h.active

theorem Part.Counts.record {p : Part} (h : p.Counts) (now : Word) (d : Detail) : (p.record now d).Counts :=
  h.congr (by simp) (by simp)

/-! ### The report to a slot that an object may carry -/

/-- The report of an owner for the slot its object carries, if any (R147). -/
def Part.reportSlot (p : Part) (now : Word) (b : Option SlotId) (kind : Byte) (object : Nat) (st : SlotState)
    (r : Result) : Part :=
  match b with
  | none => p
  | some n => p.report now n kind.toNat object st r

theorem Part.reportBroken_eq (p : Part) (now : Word) (i : SectionId) (b : Option SlotId) :
    p.reportBroken now i b = p.reportSlot now b 1#8 i.val .failed .sweepBroken := rfl

theorem Part.reportRestart_eq (p : Part) (now : Word) (h : HeadId) (b : Option SlotId) (st : SlotState) (r : Result) :
    p.reportRestart now h b st r = p.reportSlot now b 3#8 h.val st r := rfl

theorem Part.reportTest_eq (p : Part) (h : HeadId) (b : Option SlotId) (st : SlotState) (r : Result) :
    p.reportTest h b st r = p.reportSlot p.tbase.ms b 4#8 h.val st r := rfl

theorem Part.waitEnds_eq (p : Part) (now : Word) (i : SectionId) :
    p.waitEnds now i =
      (p.updateSection now i { p.scnt[i] with state := .clear, slot := none }).reportSlot now p.scnt[i].slot 1#8 i.val
        .done .ok := rfl

section
variable (p : Part) (now : Word) (b : Option SlotId) (kind : Byte) (object : Nat) (st : SlotState) (r : Result)

@[simp] theorem Part.reportSlot_frame :
    (p.reportSlot now b kind object st r).hdec = p.hdec ∧ (p.reportSlot now b kind object st r).scnt = p.scnt ∧
      (p.reportSlot now b kind object st r).supv = p.supv ∧ (p.reportSlot now b kind object st r).gen = p.gen ∧
      (p.reportSlot now b kind object st r).topo = p.topo ∧ (p.reportSlot now b kind object st r).tbase = p.tbase ∧
      (p.reportSlot now b kind object st r).ticks = p.ticks ∧
      (p.reportSlot now b kind object st r).sent = p.sent := by
  unfold Part.reportSlot; split <;> simp

/-- A slot that is in progress with a kind and an object (R148). -/
abbrev Slot.serves (x : Slot) (kind : Byte) (object : Nat) : Prop :=
  x.busy = true ∧ x.kind = kind ∧ x.target.toNat = object

theorem Part.reportSlot_slots_get (n : SlotId) :
    (p.reportSlot now b kind object st r).slots[n] =
      if b = some n ∧ p.slots[n].serves kind object then { p.slots[n] with state := st, result := some r }
      else p.slots[n] := by
  cases b with
  | none => simp [Part.reportSlot]
  | some m =>
    simp only [Part.reportSlot, Part.report_slots, BitVec.toNat_inj]
    by_cases e : m = n
    · subst e
      simp only [true_and]
      split <;> simp
    · have ne : ¬ m.val = n.val := fun k => e (Fin.ext k)
      simp only [Option.some.injEq, e, false_and, if_false]
      split <;> simp [ne]

theorem Part.Counts.reportSlot_jrnl (c : p.Counts) :
    (p.reportSlot now b kind object st r).jrnl = p.reportJournal now b kind object r p.jrnl := by
  cases b with
  | none => rfl
  | some n =>
    simp only [Part.reportSlot, Part.reportJournal, Part.report, Bool.and_eq_true, decide_eq_true_eq, and_assoc,
      BitVec.toNat_inj]
    split
    · rename_i k
      obtain ⟨-, rfl, -⟩ := k
      have c' : (p.setSlot n { p.slots[n] with state := st, result := some r }).Counts := c.congr rfl rfl
      simp only [Part.finishSlot, c'.record_jrnl]
      rfl
    · rfl

@[simp] theorem Part.reportSlot_active :
    (p.reportSlot now b kind object st r).jrnl.active = p.jrnl.active := by
  unfold Part.reportSlot Part.report Part.finishSlot
  split
  · rfl
  · split <;> simp

/-- A report to a slot that serves nothing of the kind adds no record. -/
theorem Part.reportJournal_congr (q : Part) (j : Journal) (topo : q.topo = p.topo)
    (slots : ∀ n : SlotId, b = some n → (q.slots[n].serves kind object ↔ p.slots[n].serves kind object) ∧
      (p.slots[n].serves kind object → q.slots[n].token = p.slots[n].token ∧ q.slots[n].target = p.slots[n].target)) :
    q.reportJournal now b kind object r j = p.reportJournal now b kind object r j := by
  cases b with
  | none => rfl
  | some n =>
    obtain ⟨same, fields⟩ := slots n rfl
    simp only [Part.reportJournal]
    by_cases k : p.slots[n].serves kind object
    · rw [if_pos k, if_pos (same.mpr k), (fields k).1, (fields k).2, topo]
    · rw [if_neg k, if_neg (mt same.mp k)]

end

/-! ### An update of a section -/

@[simp] theorem Part.updateSection_active (p : Part) (now : Word) (i : SectionId) (x : SectionRec) :
    (p.updateSection now i x).jrnl.active = p.jrnl.active := by
  simp only [Part.updateSection]; split <;> simp

theorem Part.Counts.updateSection_jrnl {p : Part} (c : p.Counts) (now : Word) (i : SectionId) (x : SectionRec) :
    (p.updateSection now i x).jrnl = p.jrnl.afterSection p.topo.params.ringCode now i p.scnt[i] x := by
  simp only [Part.updateSection, Journal.afterSection]
  split
  · rfl
  · have c' : (p.setScnt i (SectionRec.counted p.scnt[i] x)).Counts := c.congr rfl rfl
    rw [c'.record_jrnl]
    rfl

/-! ### The two folds of an event -/

/-- The updates of an event, in the order of the list (R31). -/
def Part.updateSections (p : Part) (now : Word) (l : List (SectionId × SectionRec)) : Part :=
  l.foldl (fun q e => q.updateSection now e.1 e.2) p

/-- The reports of an event, in the order of the list; `f` gives the slot of an entry (R43). -/
def Part.reportSweeps (p : Part) (now : Word) (f : SectionId × SectionRec → Option SlotId)
    (l : List (SectionId × SectionRec)) : Part :=
  l.foldl (fun q e => q.reportBroken now e.1 (f e)) p

theorem Part.applySections_eq (p : Part) (now : Word) (l : List (SectionId × SectionRec)) :
    p.applySections now l =
      (p.updateSections now l).reportSweeps now (fun e => SectionRec.broken p.scnt[e.1] e.2) l := rfl

section
variable (p : Part) (now : Word) (f : SectionId × SectionRec → Option SlotId) (l : List (SectionId × SectionRec))

@[simp] theorem Part.updateSections_frame :
    (p.updateSections now l).hdec = p.hdec ∧ (p.updateSections now l).supv = p.supv ∧
      (p.updateSections now l).gen = p.gen ∧ (p.updateSections now l).slots = p.slots ∧
      (p.updateSections now l).topo = p.topo ∧ (p.updateSections now l).tbase = p.tbase ∧
      (p.updateSections now l).jrnl.active = p.jrnl.active := by
  unfold Part.updateSections
  refine ⟨foldl_frame _ Part.hdec ?_ _ p, foldl_frame _ Part.supv ?_ _ p, foldl_frame _ Part.gen ?_ _ p,
    foldl_frame _ Part.slots ?_ _ p, foldl_frame _ Part.topo ?_ _ p, foldl_frame _ Part.tbase ?_ _ p,
    foldl_frame _ (fun q : Part => q.jrnl.active) ?_ _ p⟩ <;> simp

@[simp] theorem Part.reportSweeps_frame :
    (p.reportSweeps now f l).hdec = p.hdec ∧ (p.reportSweeps now f l).scnt = p.scnt ∧
      (p.reportSweeps now f l).supv = p.supv ∧ (p.reportSweeps now f l).gen = p.gen ∧
      (p.reportSweeps now f l).topo = p.topo ∧ (p.reportSweeps now f l).tbase = p.tbase ∧
      (p.reportSweeps now f l).jrnl.active = p.jrnl.active := by
  unfold Part.reportSweeps
  refine ⟨foldl_frame _ Part.hdec ?_ _ p, foldl_frame _ Part.scnt ?_ _ p, foldl_frame _ Part.supv ?_ _ p,
    foldl_frame _ Part.gen ?_ _ p, foldl_frame _ Part.topo ?_ _ p, foldl_frame _ Part.tbase ?_ _ p,
    foldl_frame _ (fun q : Part => q.jrnl.active) ?_ _ p⟩ <;> simp [Part.reportBroken_eq]

@[simp] theorem Part.applySections_active : (p.applySections now l).jrnl.active = p.jrnl.active := by
  simp [Part.applySections_eq]

/-! ### Sections -/

/-- A section that the event does not name stays. -/
theorem Part.updateSections_get_other (i : SectionId) (hi : ∀ e ∈ l, e.1 ≠ i) :
    (p.updateSections now l).scnt[i] = p.scnt[i] := by
  induction l generalizing p with
  | nil => rfl
  | cons e l ih =>
    have tail := ih (p.updateSection now e.1 e.2) fun d hd => hi d (List.mem_cons_of_mem _ hd)
    refine tail.trans ?_
    rw [Part.updateSection_get, if_neg (hi e List.mem_cons_self)]

/-- A section that the event names once has its new record. -/
theorem Part.updateSections_get (nodup : (l.map Prod.fst).Nodup) (e : SectionId × SectionRec) (he : e ∈ l) :
    (p.updateSections now l).scnt[e.1] = SectionRec.counted p.scnt[e.1] e.2 := by
  induction l generalizing p with
  | nil => cases he
  | cons d l ih =>
    rw [List.map_cons, List.nodup_cons] at nodup
    obtain ⟨fresh, nodup⟩ := nodup
    show ((p.updateSection now d.1 d.2).updateSections now l).scnt[e.1] = _
    rcases List.mem_cons.mp he with rfl | he
    · rw [Part.updateSections_get_other, Part.updateSection_get, if_pos rfl]
      exact fun c hc eq => fresh (eq ▸ List.mem_map_of_mem hc)
    · rw [ih _ nodup he, Part.updateSection_get, if_neg]
      exact fun eq => fresh (eq ▸ List.mem_map_of_mem he)

theorem Part.applySections_get_other (i : SectionId) (hi : ∀ e ∈ l, e.1 ≠ i) :
    (p.applySections now l).scnt[i] = p.scnt[i] := by
  rw [Part.applySections_eq, (Part.reportSweeps_frame _ _ _ _).2.1]
  exact p.updateSections_get_other now l i hi

theorem Part.applySections_get (nodup : (l.map Prod.fst).Nodup) (e : SectionId × SectionRec) (he : e ∈ l) :
    (p.applySections now l).scnt[e.1] = SectionRec.counted p.scnt[e.1] e.2 := by
  rw [Part.applySections_eq, (Part.reportSweeps_frame _ _ _ _).2.1]
  exact p.updateSections_get now l nodup e he

/-! ### Slots -/

/-- A slot takes the first report that is for it, and only one can be: its target names one section (R148). -/
theorem Part.reportSweeps_slots_get (n : SlotId) :
    (p.reportSweeps now f l).slots[n] =
      if ∃ e ∈ l, f e = some n ∧ p.slots[n].serves 1#8 e.1.val then
        { p.slots[n] with state := .failed, result := some .sweepBroken }
      else p.slots[n] := by
  induction l generalizing p with
  | nil => simp [Part.reportSweeps]
  | cons e l ih =>
    have tail := ih (p.reportBroken now e.1 (f e))
    refine Eq.trans tail ?_
    rw [Part.reportBroken_eq, Part.reportSlot_slots_get]
    by_cases k : f e = some n ∧ p.slots[n].serves 1#8 e.1.val
    · rw [if_pos k]
      refine Eq.trans (if_neg ?_) (if_pos ⟨e, List.mem_cons_self, k⟩).symm
      rintro ⟨d, -, -, busy, -⟩
      simp [Slot.busy, SlotState.inProgress] at busy
    · rw [if_neg k]
      congr 1
      simp only [List.mem_cons, exists_eq_or_imp, k, false_or]

theorem Part.applySections_slots_get (n : SlotId) :
    (p.applySections now l).slots[n] =
      if ∃ e ∈ l, SectionRec.broken p.scnt[e.1] e.2 = some n ∧ p.slots[n].serves 1#8 e.1.val then
        { p.slots[n] with state := .failed, result := some .sweepBroken }
      else p.slots[n] := by
  rw [Part.applySections_eq, Part.reportSweeps_slots_get]
  simp only [Part.updateSections_frame]

/-! ### The journal -/

/-- The SECTION records of an event (R31). -/
theorem Part.Counts.updateSections_jrnl {p : Part} (c : p.Counts) (nodup : (l.map Prod.fst).Nodup) :
    (p.updateSections now l).jrnl =
      l.foldl (fun j e => j.afterSection p.topo.params.ringCode now e.1 p.scnt[e.1] e.2) p.jrnl := by
  suffices gen : ∀ q : Part, q.Counts → q.topo = p.topo → (∀ e ∈ l, q.scnt[e.1] = p.scnt[e.1]) →
      (q.updateSections now l).jrnl =
        l.foldl (fun j e => j.afterSection p.topo.params.ringCode now e.1 p.scnt[e.1] e.2) q.jrnl from
    gen p c rfl fun _ _ => rfl
  induction l with
  | nil => exact fun _ _ _ _ => rfl
  | cons e l ih =>
    intro q cq topo same
    rw [List.map_cons, List.nodup_cons] at nodup
    obtain ⟨fresh, nodup⟩ := nodup
    have tail := ih nodup (q.updateSection now e.1 e.2) (cq.congr (by simp) (by simp))
      (by simpa using topo) fun d hd => by
        rw [Part.updateSection_get, if_neg, same d (List.mem_cons_of_mem _ hd)]
        exact fun eq => fresh (eq ▸ List.mem_map_of_mem hd)
    refine Eq.trans tail ?_
    rw [List.foldl_cons, cq.updateSection_jrnl, topo, same e List.mem_cons_self]

/-- The REQUEST records of an event, each as its slot stood before it (R43, R149). -/
theorem Part.Counts.reportSweeps_jrnl {p : Part} (c : p.Counts) (nodup : (l.map Prod.fst).Nodup) :
    (p.reportSweeps now f l).jrnl =
      l.foldl (fun j e => p.reportJournal now (f e) 1#8 e.1.val .sweepBroken j) p.jrnl := by
  suffices gen : ∀ q : Part, q.Counts → q.topo = p.topo →
      (∀ e ∈ l, ∀ n : SlotId, (q.slots[n].serves 1#8 e.1.val ↔ p.slots[n].serves 1#8 e.1.val) ∧
        (p.slots[n].serves 1#8 e.1.val →
          q.slots[n].token = p.slots[n].token ∧ q.slots[n].target = p.slots[n].target)) →
      (q.reportSweeps now f l).jrnl =
        l.foldl (fun j e => p.reportJournal now (f e) 1#8 e.1.val .sweepBroken j) q.jrnl from
    gen p c rfl fun _ _ _ => ⟨Iff.rfl, fun _ => ⟨rfl, rfl⟩⟩
  induction l with
  | nil => exact fun _ _ _ _ => rfl
  | cons e l ih =>
    intro q cq topo same
    rw [List.map_cons, List.nodup_cons] at nodup
    obtain ⟨fresh, nodup⟩ := nodup
    have tail := ih nodup (q.reportBroken now e.1 (f e))
      (cq.congr (by simp) (by simp [Part.reportBroken_eq])) (by simpa using topo) fun d hd n => by
        have old := same d (List.mem_cons_of_mem _ hd) n
        rw [Part.reportBroken_eq, Part.reportSlot_slots_get]
        split
        · rename_i k
          have ne : d.1 ≠ e.1 := fun eq => fresh (eq ▸ List.mem_map_of_mem hd)
          have other : ¬ q.slots[n].serves 1#8 d.1.val := fun s => ne (Fin.ext (s.2.2.symm.trans k.2.2.2))
          have other' := mt old.1.mpr other
          refine ⟨iff_of_false ?_ other', fun s => absurd s other'⟩
          exact fun s => other ⟨k.2.1, s.2⟩
        · exact old
    refine Eq.trans tail ?_
    rw [List.foldl_cons, Part.reportBroken_eq, cq.reportSlot_jrnl]
    rw [p.reportJournal_congr _ _ _ _ _ q _ topo fun n _ => same e List.mem_cons_self n]

theorem Part.Counts.applySections_jrnl {p : Part} (c : p.Counts) (nodup : (l.map Prod.fst).Nodup) :
    (p.applySections now l).jrnl =
      l.foldl (fun j e => p.reportJournal now (SectionRec.broken p.scnt[e.1] e.2) 1#8 e.1.val .sweepBroken j)
        (l.foldl (fun j e => j.afterSection p.topo.params.ringCode now e.1 p.scnt[e.1] e.2) p.jrnl) := by
  have c' : (p.updateSections now l).Counts := c.congr (by simp) (by simp)
  rw [Part.applySections_eq, c'.reportSweeps_jrnl now _ l nodup, c.updateSections_jrnl now l nodup]
  congr 1
  funext j e
  exact Part.reportJournal_congr p now _ 1#8 e.1.val .sweepBroken _ j (by simp) fun n _ => by simp

end

end Sys2Proof.Machine

/-! SUPPORT. An event that disturbs the sections beside a head, and a passage: the records, the slots and the journal
afterwards (R33, R39 to R45). -/

namespace Sys2Proof.Machine

open Sys2Proof

/-! ### One record -/

section
variable (x : SectionRec) (c : Cause)

theorem SectionRec.disturbOrMark_of_disturbable (h : x.disturbable) : x.disturbOrMark c = x.disturb c false := by
  obtain ⟨nd, nu⟩ := h
  unfold SectionRec.disturbOrMark
  split
  · exact absurd ‹_› nd
  · exact absurd ‹_› nu
  · rfl

theorem SectionRec.disturbOrMark_of_disturbed (h : x.state = .disturbed) :
    x.disturbOrMark c = { x with moved := true } := by
  simp only [SectionRec.disturbOrMark, h]

theorem SectionRec.disturbOrMark_of_unused (h : x.state = .unused) : x.disturbOrMark c = x := by
  simp only [SectionRec.disturbOrMark, h]

/-- A record is disturbed already, unused, or one the event disturbs. -/
theorem SectionRec.disturbable_cases : x.state = .disturbed ∨ x.state = .unused ∨ x.disturbable := by
  by_cases nd : x.state = .disturbed
  · exact .inl nd
  by_cases nu : x.state = .unused
  · exact .inr (.inl nu)
  · exact .inr (.inr ⟨nd, nu⟩)

theorem SectionRec.counted_disturbOrMark : SectionRec.counted x (x.disturbOrMark c) = x.disturbed c := by
  obtain h | h | h := x.disturbable_cases
  · rw [x.disturbOrMark_of_disturbed c h]
    simp [SectionRec.counted, SectionRec.disturbed, h]
  · rw [x.disturbOrMark_of_unused c h, SectionRec.disturbed, if_neg (by simp [h]), if_pos h]
    simp [SectionRec.counted]
  · rw [x.disturbOrMark_of_disturbable c h]
    simp [SectionRec.counted, SectionRec.disturbed, SectionRec.disturb, h.1, h.2]

theorem SectionRec.broken_disturbOrMark :
    SectionRec.broken x (x.disturbOrMark c) = if x.disturbable then x.slot else none := by
  obtain h | h | h := x.disturbable_cases
  · simp [SectionRec.broken, h]
  · rw [x.disturbOrMark_of_unused c h]
    simp [SectionRec.broken, h]
  · rw [x.disturbOrMark_of_disturbable c h, if_pos h]
    simp [SectionRec.broken, SectionRec.disturb, h.1]

theorem SectionRec.afterSection_disturbOrMark (j : Journal) (k : Nat) (now : Word) (i : SectionId) :
    j.afterSection k now i x (x.disturbOrMark c) =
      if x.disturbable then j.take k now (.section_ i x.state .disturbed 0 (some c)) else j := by
  obtain h | h | h := x.disturbable_cases
  · rw [x.disturbOrMark_of_disturbed c h, if_neg fun k => k.1 h]
    simp [Journal.afterSection]
  · rw [x.disturbOrMark_of_unused c h, if_neg fun k => k.2 h]
    simp [Journal.afterSection]
  · rw [x.disturbOrMark_of_disturbable c h, if_pos h]
    simp [Journal.afterSection, SectionRec.disturb, h.1]

end

/-! ### The sections beside a head -/

/-- The two sides of a head name two sections, or one or none (R110, R113). -/
theorem Part.adjacent_nodup (p : Part) (h : HeadId) (two : p.twoSections h) : (p.adjacent h).Nodup := by
  unfold Part.adjacent
  cases ea : (p.headEntry h).sideA with
  | none => cases (p.headEntry h).sideB <;> simp
  | some i =>
    cases eb : (p.headEntry h).sideB with
    | none => simp
    | some j =>
      have ne : i ≠ j := fun eq => two i ea (eq ▸ eb)
      simpa using ne

theorem Part.mem_adjacent (p : Part) (h : HeadId) (i : SectionId) :
    i ∈ p.adjacent h ↔ (p.headEntry h).sideA = some i ∨ (p.headEntry h).sideB = some i := by
  simp [Part.adjacent]

section
variable (p : Part) (now : Word) (h : HeadId) (c : Cause)

theorem Part.disturbAdjacent_get (two : p.twoSections h) (i : SectionId) (hi : i ∈ p.adjacent h) :
    (p.disturbAdjacent now h c).scnt[i] = p.scnt[i].disturbed c := by
  have k := p.applySections_get now ((p.adjacent h).map fun i => (i, SectionRec.disturbOrMark c p.scnt[i]))
    (by simpa [Function.comp_def] using p.adjacent_nodup h two) _ (List.mem_map_of_mem hi)
  exact k.trans (SectionRec.counted_disturbOrMark _ _)

theorem Part.disturbAdjacent_get_other (i : SectionId) (hi : i ∉ p.adjacent h) :
    (p.disturbAdjacent now h c).scnt[i] = p.scnt[i] := by
  refine p.applySections_get_other now _ i fun e he eq => ?_
  obtain ⟨j, hj, rfl⟩ := List.mem_map.mp he
  exact hi (eq ▸ hj)

theorem Part.disturbAdjacent_slots_get (n : SlotId) :
    (p.disturbAdjacent now h c).slots[n] = p.slotDisturbed h n := by
  refine (p.applySections_slots_get now _ n).trans ?_
  unfold Part.slotDisturbed
  refine ite_congr (propext ?_) (fun _ => rfl) (fun _ => rfl)
  constructor
  · rintro ⟨e, he, broken, busy, kind, target⟩
    obtain ⟨i, hi, rfl⟩ := List.mem_map.mp he
    rw [SectionRec.broken_disturbOrMark] at broken
    split at broken
    · rename_i d
      exact ⟨busy, kind, i, hi, target, broken, d⟩
    · cases broken
  · rintro ⟨busy, kind, i, hi, target, slot, d⟩
    refine ⟨_, List.mem_map_of_mem hi, ?_, busy, kind, target⟩
    rw [SectionRec.broken_disturbOrMark, if_pos d, slot]

theorem Part.Counts.disturbAdjacent_jrnl {p : Part} (k : p.Counts) (two : p.twoSections h) :
    (p.disturbAdjacent now h c).jrnl = p.disturbJournal now h c p.jrnl := by
  refine (k.applySections_jrnl now _ (by simpa [Function.comp_def] using p.adjacent_nodup h two)).trans ?_
  simp only [List.foldl_map, SectionRec.broken_disturbOrMark, SectionRec.afterSection_disturbOrMark,
    Part.disturbJournal]
  congr 1
  funext j i
  split <;> rfl

@[simp] theorem Part.disturbAdjacent_active : (p.disturbAdjacent now h c).jrnl.active = p.jrnl.active := by
  simp [Part.disturbAdjacent]

end

/-! ### What the sections' forms go by -/

section
variable {p q : Part} (h : HeadId) (t : q.topo = p.topo) (s : q.scnt = p.scnt)
include t

theorem Part.adjacent_congr : q.adjacent h = p.adjacent h := by
  simp only [Part.adjacent, Part.headEntry, t]

theorem Part.twoSections_congr : q.twoSections h ↔ p.twoSections h := by
  simp only [Part.twoSections, Part.headEntry, t]

theorem Part.reportJournal_of_slots (sl : q.slots = p.slots) : q.reportJournal = p.reportJournal := by
  funext now b kind object r j
  simp only [Part.reportJournal, sl, t]

include s

theorem Part.disturbJournal_congr (sl : q.slots = p.slots) : q.disturbJournal = p.disturbJournal := by
  funext now h c j
  simp only [Part.disturbJournal, s, t, Part.adjacent_congr h t, Part.reportJournal_of_slots t sl]

theorem Part.slotDisturbed_congr (sl : q.slots = p.slots) (n : SlotId) : q.slotDisturbed h n = p.slotDisturbed h n := by
  simp only [Part.slotDisturbed, Part.sweepBreaks, s, sl, Part.adjacent_congr h t]

end

/-! ### Notices -/

/-- The three events that disturb the sections beside their head, with the cause they give (R40, R42, R45). -/
theorem State.takeScnt_running (s : State) (m : ToScnt) (f : Part → Part) (up : s.up) (run : s.part.running = true)
    (hm : m ∈ s.part.sent.scnt) : s.takeScnt m f = .next (s.withPart (f (s.part.tookScnt m))) := by
  rw [State.takeScnt, State.powered_up _ _ up, if_pos hm, if_pos run]

/-- An event in flight outside RUNNING is gone without effect (R52). -/
theorem State.takeScnt_dropped (s : State) (m : ToScnt) (f : Part → Part) (up : s.up) (run : s.part.running = false)
    (hm : m ∈ s.part.sent.scnt) : s.takeScnt m f = .next (s.withPart (s.part.tookScnt m)) := by
  rw [State.takeScnt, State.powered_up _ _ up, if_pos hm, if_neg (by simp [run])]

theorem Part.running_eq_false (p : Part) (h : p.topo.mode ≠ .running) : p.running = false := by
  simp [Part.running, h]

/-- A movement notice marks the disturbed sections beside the head (R41). -/
theorem Part.movement_get (p : Part) (h : HeadId) (i : SectionId) :
    (p.movement h).scnt[i] = if i ∈ p.adjacent h then p.scnt[i].markMoved else p.scnt[i] := by
  suffices gen : ∀ (l : List SectionId) (q : Part),
      (l.foldl (fun q i => q.setScnt i q.scnt[i].markMoved) q).scnt[i] =
        if i ∈ l then q.scnt[i].markMoved else q.scnt[i] from gen _ p
  intro l
  induction l with
  | nil => simp
  | cons j l ih =>
    intro q
    have again : ∀ x : SectionRec, x.markMoved.markMoved = x.markMoved := by
      intro x
      unfold SectionRec.markMoved
      split <;> simp_all
    rw [List.foldl_cons, ih, Part.setScnt_get]
    by_cases eq : j = i
    · subst eq
      simp [again]
    · simp [eq, Ne.symm eq]

open SectionRec in
/-- Settles O12: the disturbing notices by the rule of `disturbAdjacent`, the movement notice by its own, and each of
them outside RUNNING as an event that is dropped. -/
theorem noticesReachAdjacentSections : Obligations.NoticesReachAdjacentSections := by
  have disturbs (h : HeadId) (s : State) (m : ToScnt) (cause : Cause) (k : s.counting) (hm : m ∈ s.part.sent.scnt)
      (two : s.part.twoSections h) :
      ∃ t : State, s.takeScnt m (fun p => p.disturbAdjacent p.tbase.ms h cause) = .next t ∧
        (∀ i ∈ s.part.adjacent h, t.part.scnt[i] = s.part.scnt[i].disturbed cause) ∧
        (∀ i : SectionId, i ∉ s.part.adjacent h → t.part.scnt[i] = s.part.scnt[i]) ∧
        (∀ n : SlotId, t.part.slots[n] = s.part.slotDisturbed h n) ∧
        t.part.jrnl = s.part.disturbJournal s.part.tbase.ms h cause s.part.jrnl ∧
        t.part.sent = { s.part.sent with scnt := s.part.sent.scnt.erase m } ∧
        t.part.hdec = s.part.hdec ∧ t.part.supv = s.part.supv ∧ t.part.gen = s.part.gen ∧
        t.part.topo = s.part.topo ∧ t.part.tbase = s.part.tbase ∧ t.path = s.path ∧ t.mem = s.mem := by
    have c : (s.part.tookScnt m).Counts := k.counts.congr rfl rfl
    refine ⟨_, s.takeScnt_running m _ k.1 k.counts.running hm, ?_, ?_, ?_, ?_, ?_⟩
    · exact fun i hi => (s.part.tookScnt m).disturbAdjacent_get _ h cause two i hi
    · exact fun i hi => (s.part.tookScnt m).disturbAdjacent_get_other _ h cause i hi
    · exact fun n => (s.part.tookScnt m).disturbAdjacent_slots_get _ h cause n
    · exact c.disturbAdjacent_jrnl _ h cause two
    · simp
  have dropped (s : State) (m : ToScnt) (f : Part → Part) (up : s.up) (run : s.part.topo.mode ≠ .running)
      (hm : m ∈ s.part.sent.scnt) :
      s.takeScnt m f = .next (s.withPart
        { s.part with sent := { s.part.sent with scnt := s.part.sent.scnt.erase m } }) :=
    s.takeScnt_dropped m f up (s.part.running_eq_false run) hm
  refine ⟨?disturbing, ?movement, ?outside⟩
  case disturbing =>
    intro h s c m cause hc k hm two
    simp only [List.mem_cons, Prod.mk.injEq, List.not_mem_nil, or_false] at hc
    obtain ⟨rfl, rfl, rfl⟩ | ⟨rfl, rfl, rfl⟩ | ⟨rfl, rfl, rfl⟩ := hc <;> exact disturbs h s _ _ k hm two
  case movement =>
    intro h s up hm
    by_cases run : s.part.running = true
    · refine ⟨_, s.takeScnt_running (.movement h) (·.movement h) up run hm, fun i => ?_, by simp⟩
      rw [State.withPart_part, Part.movement_get]
      simp only [(s.part.running_iff).mp run, true_and, ite_and, SectionRec.markMoved]
      rfl
    · have run := Bool.eq_false_of_not_eq_true run
      refine ⟨_, s.takeScnt_dropped (.movement h) (·.movement h) up run hm, fun i => ?_, by simp⟩
      have mode : s.part.topo.mode ≠ .running := fun e => by simp [Part.running, e] at run
      rw [if_neg fun k => mode k.1]
      rfl
  case outside =>
    intro h s c m hc up run hm
    simp only [List.mem_cons, Prod.mk.injEq, List.not_mem_nil, or_false] at hc
    obtain ⟨rfl, rfl⟩ | ⟨rfl, rfl⟩ | ⟨rfl, rfl⟩ := hc <;>
      exact dropped s _ (fun p => p.disturbAdjacent p.tbase.ms h _) up run hm

/-! ### Passages -/

/-- The sections of a passage with their new records, side a first (R33). -/
def Part.crossings (p : Part) (h : HeadId) (d : Direction) : List (SectionId × SectionRec) :=
  ((p.headEntry h).sideA.toList.map fun i => p.crossed i (decide (d = .bToA))) ++
    ((p.headEntry h).sideB.toList.map fun i => p.crossed i (decide (d = .aToB)))

theorem Part.passage_eq (p : Part) (h : HeadId) (d : Direction) :
    p.passage h d = p.applySections p.tbase.ms (p.crossings h d) := rfl

theorem Part.crossings_fst (p : Part) (h : HeadId) (d : Direction) :
    (p.crossings h d).map Prod.fst = p.adjacent h := by
  simp [Part.crossings, Part.adjacent, Part.crossed, Function.comp_def]

theorem Part.mem_crossings (p : Part) (h : HeadId) (d : Direction) (e : SectionId × SectionRec) :
    e ∈ p.crossings h d ↔
      ((p.headEntry h).sideA = some e.1 ∧ e = p.crossed e.1 (decide (d = .bToA))) ∨
        ((p.headEntry h).sideB = some e.1 ∧ e = p.crossed e.1 (decide (d = .aToB))) := by
  simp only [Part.crossings, List.mem_append, List.mem_map, Option.mem_toList]
  refine or_congr ?_ ?_ <;>
  · constructor
    · rintro ⟨i, hi, rfl⟩
      exact ⟨hi, rfl⟩
    · rintro ⟨hi, he⟩
      exact ⟨e.1, hi, he.symm⟩

/-- A change count as a sum. -/
theorem SectionRec.counted_eq (x y : SectionRec) :
    SectionRec.counted x y =
      { y with
        changes := x.changes +
          if x.state = y.state ∧ x.count = y.count ∧ x.cause = y.cause then 0#8 else 1#8 } := by
  unfold SectionRec.counted
  split <;> simp

/-- The slot of a sweep that an update breaks (R43). -/
theorem SectionRec.broken_iff (x y : SectionRec) (n : SlotId) :
    SectionRec.broken x y = some n ↔ x.slot = some n ∧ x.state ≠ .disturbed ∧ y.state = .disturbed := by
  unfold SectionRec.broken
  split
  · rename_i k
    simp [k]
  · rename_i k
    simp only [reduceCtorEq, false_iff, not_and]
    exact fun _ nd d => k ⟨nd, d⟩

/-- The REQUEST record of a broken sweep, if the update breaks one (R43). -/
theorem Part.reportJournal_broken (p : Part) (now : Word) (x y : SectionRec) (k : Byte) (o : Nat) (r : Result)
    (j : Journal) :
    p.reportJournal now (SectionRec.broken x y) k o r j =
      if x.state ≠ .disturbed ∧ y.state = .disturbed then p.reportJournal now x.slot k o r j else j := by
  unfold SectionRec.broken
  split <;> rfl

/-- Settles O10, by the rule of an event that names each section once: its sections are the two sides' entries of
`crossings`. -/
theorem passageCrossesBothSections : Obligations.PassageCrossesBothSections := by
  refine ⟨?counting, fun h d s up run hm => ?outside⟩
  case outside =>
    exact s.takeScnt_dropped (.passage h d) (·.passage h d) up (s.part.running_eq_false run) hm
  case counting =>
    intro h d s na nb k hm two ha hb
    have crossA (i : SectionId) : s.part.crossed i (decide (d = .bToA)) = (i, na i) := by
      simp [Part.crossed, ha]
    have crossB (i : SectionId) : s.part.crossed i (decide (d = .aToB)) = (i, nb i) := by
      simp [Part.crossed, hb]
    have list : s.part.crossings h d =
        (s.part.headEntry h).sideA.toList.map (fun i => (i, na i)) ++
          (s.part.headEntry h).sideB.toList.map (fun i => (i, nb i)) := by
      simp only [Part.crossings, crossA, crossB]
    have nodup : ((s.part.crossings h d).map Prod.fst).Nodup := by
      rw [Part.crossings_fst]
      exact s.part.adjacent_nodup h two
    have mem (e : SectionId × SectionRec) : e ∈ s.part.crossings h d ↔
        ((s.part.headEntry h).sideA = some e.1 ∧ e = (e.1, na e.1)) ∨
          ((s.part.headEntry h).sideB = some e.1 ∧ e = (e.1, nb e.1)) := by
      rw [Part.mem_crossings, crossA, crossB]
    have c : (s.part.tookScnt (.passage h d)).Counts := k.counts.congr rfl rfl
    have get (e : SectionId × SectionRec) (he : e ∈ s.part.crossings h d) :
        ((s.part.tookScnt (.passage h d)).passage h d).scnt[e.1] = SectionRec.counted s.part.scnt[e.1] e.2 :=
      (s.part.tookScnt (.passage h d)).applySections_get _ _ nodup e he
    refine ⟨_, s.takeScnt_running (.passage h d) (·.passage h d) k.1 k.counts.running hm, fun i hi => ?sideA,
      fun i hi => ?sideB, fun i ia ib => ?others, fun n => ?slots, ?journal, ?frame⟩
    case sideA => exact (get (i, na i) ((mem _).mpr (.inl ⟨hi, rfl⟩))).trans (SectionRec.counted_eq _ _)
    case sideB => exact (get (i, nb i) ((mem _).mpr (.inr ⟨hi, rfl⟩))).trans (SectionRec.counted_eq _ _)
    case others =>
      refine (s.part.tookScnt (.passage h d)).applySections_get_other _ _ i fun e he eq => ?_
      obtain ⟨he, -⟩ | ⟨he, -⟩ := (mem e).mp he
      · exact ia (eq ▸ he)
      · exact ib (eq ▸ he)
    case slots =>
      refine ((s.part.tookScnt (.passage h d)).applySections_slots_get _ _ n).trans ?_
      refine ite_congr (propext ⟨?_, ?_⟩) (fun _ => rfl) (fun _ => rfl)
      · rintro ⟨e, he, broken, busy, kind, target⟩
        obtain ⟨slot, nd, dist⟩ := (SectionRec.broken_iff _ _ n).mp broken
        refine ⟨busy, kind, e.1, target, slot, nd, ?_⟩
        obtain ⟨side, eq⟩ | ⟨side, eq⟩ := (mem e).mp he
        · exact .inl ⟨side, by rw [eq] at dist; exact dist⟩
        · exact .inr ⟨side, by rw [eq] at dist; exact dist⟩
      · rintro ⟨busy, kind, i, target, slot, nd, ⟨side, dist⟩ | ⟨side, dist⟩⟩
        · exact ⟨(i, na i), (mem _).mpr (.inl ⟨side, rfl⟩), (SectionRec.broken_iff _ _ n).mpr ⟨slot, nd, dist⟩,
            busy, kind, target⟩
        · exact ⟨(i, nb i), (mem _).mpr (.inr ⟨side, rfl⟩), (SectionRec.broken_iff _ _ n).mpr ⟨slot, nd, dist⟩,
            busy, kind, target⟩
    case journal =>
      refine (c.applySections_jrnl s.part.tbase.ms (s.part.crossings h d) nodup).trans ?_
      simp only [list, Part.reportJournal_broken]
      rfl
    case frame => simp

end Sys2Proof.Machine

/-! SUPPORT. No section is in proof beside a head that counts nothing: the operations of a section take none into proof
but the two restorations, which ask for ready heads, and a head that fails disturbs its sections in the same update. -/

namespace Sys2Proof.Machine

open Sys2Proof

/-! ### One record -/

/-- An operation that keeps a section's bounding heads and takes it into no proof (R28, R29). -/
structure SectionRec.Calm (old new : SectionRec) : Prop where
  bounding : new.bounding = old.bounding
  proof : new.state.inProof = true → old.state.inProof = true

section
variable (x : SectionRec)

theorem SectionRec.Calm.refl : x.Calm x := ⟨rfl, id⟩

theorem SectionRec.Calm.of_state {x y : SectionRec} (b : y.bounding = x.bounding) (s : y.state = x.state) :
    x.Calm y := ⟨b, by rw [s]; exact id⟩

theorem SectionRec.Calm.of_proof {x y : SectionRec} (b : y.bounding = x.bounding) (s : x.state.inProof = true) :
    x.Calm y := ⟨b, fun _ => s⟩

theorem SectionRec.Calm.counted {x y : SectionRec} (h : x.Calm y) (o : SectionRec) : x.Calm (SectionRec.counted o y) :=
  ⟨h.bounding, h.proof⟩

theorem SectionRec.calm_disturb (c : Cause) (m : Bool) : x.Calm (x.disturb c m) :=
  ⟨rfl, fun k => by simp [SectionRec.disturb, SectionState.inProof] at k⟩

theorem SectionRec.calm_disturbOrMark (c : Cause) : x.Calm (x.disturbOrMark c) := by
  obtain h | h | h := x.disturbable_cases
  · rw [x.disturbOrMark_of_disturbed c h]
    exact .of_state rfl rfl
  · rw [x.disturbOrMark_of_unused c h]
    exact .refl x
  · rw [x.disturbOrMark_of_disturbable c h]
    exact x.calm_disturb c false

theorem SectionRec.inProof_disturbOrMark (c : Cause) : (x.disturbOrMark c).state.inProof = false := by
  obtain h | h | h := x.disturbable_cases
  · rw [x.disturbOrMark_of_disturbed c h, h]
    rfl
  · rw [x.disturbOrMark_of_unused c h, h]
    rfl
  · rw [x.disturbOrMark_of_disturbable c h]
    rfl

/-- An enter of a section in proof leaves it there or disturbs it; the others stay out (R34). -/
theorem SectionRec.calm_enter : x.Calm x.enter := by
  have bounding : x.enter.bounding = x.bounding := by
    unfold SectionRec.enter
    split
    · rfl
    · split <;> rfl
    · rfl
    · rfl
    · split <;> rfl
    · rfl
    · rfl
  refine ⟨bounding, fun k => ?_⟩
  cases st : x.state with
  | unused => rw [SectionRec.enter] at k; simp [st, SectionState.inProof] at k
  | disturbed => rw [SectionRec.enter_of_disturbed st] at k; simp [st, SectionState.inProof] at k
  | _ => rfl

theorem SectionRec.calm_leave (code : Nat) : x.Calm (x.leave code) := by
  have bounding : (x.leave code).bounding = x.bounding := by
    unfold SectionRec.leave
    split
    · rfl
    · split <;> rfl
    · rfl
    · rfl
    · split <;> rfl
    · rfl
    · rfl
  refine ⟨bounding, fun k => ?_⟩
  cases st : x.state with
  | unused => rw [SectionRec.leave] at k; simp [st, SectionState.inProof] at k
  | disturbed => rw [SectionRec.leave_of_disturbed st] at k; simp [st, SectionState.inProof] at k
  | _ => rfl

theorem SectionRec.calm_markMoved : x.Calm x.markMoved := by
  unfold SectionRec.markMoved
  split
  · exact .of_state rfl rfl
  · exact .refl x

theorem SectionRec.calm_atHalt : x.Calm x.atHalt := by
  unfold SectionRec.atHalt
  split
  · exact .refl x
  · exact ⟨rfl, fun k => by simp [SectionRec.disturb, SectionState.inProof] at k⟩

end

/-! ### All records -/

/-- Every section keeps its bounding heads, and none comes into proof. -/
def Part.Calms (p q : Part) : Prop := ∀ i : SectionId, p.scnt[i].Calm q.scnt[i]

section
variable {p q : Part}

theorem Part.calms_of_scnt (e : q.scnt = p.scnt) : p.Calms q := fun i => by
  rw [e]
  exact .refl _

theorem Part.Calms.congr {r : Part} (h : p.Calms q) (e : r.scnt = q.scnt) : p.Calms r := fun i => by
  rw [e]
  exact h i

theorem Part.Calms.setScnt (h : p.Calms q) (i : SectionId) {x : SectionRec} (hx : p.scnt[i].Calm x) :
    p.Calms (q.setScnt i x) := fun j => by
  rw [Part.setScnt_get]
  split
  · rename_i e
    exact e ▸ hx
  · exact h j

theorem Part.Calms.updateSection (h : p.Calms q) (now : Word) (i : SectionId) {x : SectionRec}
    (hx : p.scnt[i].Calm x) : p.Calms (q.updateSection now i x) := fun j => by
  rw [Part.updateSection_get]
  split
  · rename_i e
    exact e ▸ hx.counted _
  · exact h j

theorem Part.Calms.trans {r : Part} (h : p.Calms q) (k : q.Calms r) : p.Calms r := fun i =>
  ⟨(k i).bounding.trans (h i).bounding, fun e => (h i).proof ((k i).proof e)⟩

theorem Part.calms_applySections (p : Part) (now : Word) (l : List (SectionId × SectionRec))
    (hl : ∀ e ∈ l, p.scnt[e.1].Calm e.2) : p.Calms (p.applySections now l) := by
  have updated : p.Calms (p.updateSections now l) :=
    foldl_keeps p.Calms _ l (fun _ hq e he => hq.updateSection now e.1 (hl e he)) p (calms_of_scnt rfl)
  exact updated.congr (by simp [Part.applySections_eq])

theorem Part.calms_disturbAdjacent (p : Part) (now : Word) (h : HeadId) (c : Cause) :
    p.Calms (p.disturbAdjacent now h c) := by
  refine p.calms_applySections now _ fun e he => ?_
  obtain ⟨i, -, rfl⟩ := List.mem_map.mp he
  exact SectionRec.calm_disturbOrMark _ c

theorem Part.calms_passage (p : Part) (h : HeadId) (d : Direction) : p.Calms (p.passage h d) := by
  have crossed (i : SectionId) (b : Bool) : p.scnt[i].Calm (p.crossed i b).2 := by
    cases b
    · exact SectionRec.calm_leave _ _
    · exact SectionRec.calm_enter _
  refine p.calms_applySections _ (p.crossings h d) fun e he => ?_
  obtain ⟨-, eq⟩ | ⟨-, eq⟩ := (p.mem_crossings h d e).mp he <;> rw [eq] <;> exact crossed _ _

theorem Part.calms_movement (p : Part) (h : HeadId) : p.Calms (p.movement h) :=
  foldl_keeps p.Calms _ _
    (fun q hq i _ => hq.trans ((calms_of_scnt rfl).setScnt i (SectionRec.calm_markMoved q.scnt[i]))) p
    (calms_of_scnt rfl)

theorem Part.calms_settleSection (p : Part) (now : Word) (i : SectionId) : p.Calms (p.settleSection now i) := by
  have same : p.Calms p := calms_of_scnt rfl
  unfold Part.settleSection
  split_ifs with st idle ended
  · exact same
  · exact same.setScnt i (.of_state rfl rfl)
  · have st := Decidable.of_not_not st
    have k := same.updateSection now i (x := { p.scnt[i] with state := .clear, slot := none })
      (.of_proof rfl (by rw [st]; rfl))
    exact k.congr (by rw [Part.waitEnds_eq]; simp)
  · exact same.setScnt i (.of_state rfl rfl)

theorem Part.calms_settleAll (p : Part) (now : Word) : p.Calms (p.settleAll now) := by
  unfold Part.settleAll
  generalize allSections = l
  exact foldl_keeps p.Calms _ l (fun q hq i _ => hq.trans (q.calms_settleSection now i)) p (calms_of_scnt rfl)

theorem Part.calms_settleTick (p : Part) : p.Calms p.settleTick := by
  obtain ⟨-, e⟩ | ⟨v, rest, -, e⟩ := p.settleTick_cases <;> rw [e]
  · exact calms_of_scnt rfl
  · split
    · exact (p.setTicks { p.ticks with scnt := rest }).calms_settleAll v
    · exact calms_of_scnt rfl

/-- Every section beside the head is out of proof after an event that disturbs them. -/
theorem Part.inProof_disturbAdjacent (p : Part) (now : Word) (h : HeadId) (c : Cause) (i : SectionId)
    (hi : i ∈ p.adjacent h) : (p.disturbAdjacent now h c).scnt[i].state.inProof = false := by
  suffices gen : ∀ (l : List (SectionId × SectionRec)) (q : Part), (∀ e ∈ l, e.2.state.inProof = false) →
      i ∈ l.map Prod.fst → (q.updateSections now l).scnt[i].state.inProof = false by
    unfold Part.disturbAdjacent
    rw [Part.applySections_eq, (Part.reportSweeps_frame _ _ _ _).2.1]
    refine gen _ p (fun e he => ?_) (by simpa [Function.comp_def] using hi)
    obtain ⟨j, -, rfl⟩ := List.mem_map.mp he
    exact SectionRec.inProof_disturbOrMark _ c
  intro l
  induction l with
  | nil => exact fun _ _ k => nomatch k
  | cons e l ih =>
    intro q out k
    by_cases tail : i ∈ l.map Prod.fst
    · exact ih (q.updateSection now e.1 e.2) (fun d hd => out d (List.mem_cons_of_mem _ hd)) tail
    · have eq : e.1 = i := by simpa [eq_comm, tail] using k
      have last : (q.updateSections now (e :: l)).scnt[i] = (q.updateSection now e.1 e.2).scnt[i] :=
        (q.updateSection now e.1 e.2).updateSections_get_other now l i fun d hd ed =>
          tail (ed ▸ List.mem_map_of_mem hd)
      rw [last, Part.updateSection_get, if_pos eq]
      exact out e List.mem_cons_self

/-! ### The operations of SUPV, TGEN, REQE and TOPO that reach sections -/

theorem Part.calms_scoreEvent (p : Part) (now : Word) (h : HeadId) (c : ScoreChange) (t : Trigger)
    (y : Option System) : p.Calms (p.scoreEvent now h c t y) := by
  have k := p.scored_scoreEvent now h c t y
  generalize p.scoreEvent now h c t y = q at k ⊢
  cases k with
  | discarded _ => exact calms_of_scnt rfl
  | same _ _ _ => exact calms_of_scnt rfl
  | changed _ _ _ _ => exact calms_of_scnt (by simp)
  | failed _ _ _ => exact (calms_of_scnt (by simp)).trans (Part.calms_disturbAdjacent _ now h .headFailed)

theorem Part.calms_supervisionTick (p : Part) (h : HeadId) (a b : Amp) : p.Calms (p.supervisionTick h a b) := by
  obtain e | e | ⟨v, -, -, -, e⟩ := p.supervisionTick_cases h a b <;> rw [e]
  · exact calms_of_scnt rfl
  · exact calms_of_scnt (by simp)
  · have scanned : p.Calms (p.scanned v h a b) :=
      Part.scanned_keeps p.Calms v h (fun q c t y hq => hq.trans (q.calms_scoreEvent v h c t y)) p a b
        (calms_of_scnt rfl)
    have supervised : p.Calms (p.superviseHead v h a b) := by
      rw [Part.superviseHead_eq]
      split
      · exact scanned.congr (by simp)
      · exact scanned
    exact supervised.congr (by simp)

theorem Part.calms_testAborts (p : Part) (h : HeadId) : p.Calms (p.testAborts h) := by
  have disturbed := Part.calms_disturbAdjacent (((p.setGen p.gen.toIdle).leaveTest h).record p.tbase.ms
    (.test h p.gen.dir .abort (recordStep p.gen.step) (some .unexpectedEdge))) p.tbase.ms h .testAbort
  exact ((calms_of_scnt (by simp)).trans disturbed).congr (by simp [Part.testAborts])

theorem Part.calms_takeCopy (p : Part) : p.Calms p.takeCopy := by
  obtain ⟨-, e⟩ | ⟨c, rest, -, e⟩ := p.takeCopy_cases <;> rw [e]
  · exact calms_of_scnt rfl
  · have k := (p.setSent { p.sent with copies := rest }).judged_judgeCopy c
    generalize (p.setSent { p.sent with copies := rest }).judgeCopy c = q at k ⊢
    cases k with
    | aborts _ _ _ => exact Part.calms_testAborts (p.setSent { p.sent with copies := rest }) c.h
    | _ => exact calms_of_scnt (by simp)

theorem Part.calms_cancelWork (p : Part) (m : SlotId) : p.Calms (p.cancelWork m) := by
  unfold Part.cancelWork
  split_ifs
  · unfold Part.cancelSweep
    split
    · exact calms_of_scnt rfl
    · exact (calms_of_scnt rfl).updateSection _ _ (SectionRec.calm_disturb _ _ _)
  · exact calms_of_scnt (by simp)
  · exact calms_of_scnt (by simp)

theorem Part.calms_topoSlowTick (p : Part) : p.Calms p.topoSlowTick := by
  obtain ⟨-, e⟩ | ⟨v, rest, -, e⟩ := p.topoSlowTick_cases <;> rw [e]
  · exact calms_of_scnt rfl
  · split
    · intro i
      rw [Part.halt_scnt_get]
      exact SectionRec.calm_atHalt _
    · exact calms_of_scnt rfl

theorem Part.topoSlowTick_params (p : Part) : p.topoSlowTick.topo.params = p.topo.params := by
  obtain ⟨-, e⟩ | ⟨v, rest, -, e⟩ := p.topoSlowTick_cases <;> rw [e]
  split <;> rfl

/-- No request writes the bounding heads of a section (R28). -/
theorem Part.bounding_request (p : Part) (n : SlotId) (w : Word) (i : SectionId) :
    (p.request n w).scnt[i].bounding = p.scnt[i].bounding := by
  have section_ (j : SectionId) (x : SectionRec) (e : x.bounding = p.scnt[j].bounding) :
      (p.updateSection p.tbase.ms j x).scnt[i].bounding = p.scnt[i].bounding := by
    rw [Part.updateSection_get]
    split
    · rename_i eq
      rw [SectionRec.counted_bounding, e, eq]
    · rfl
  have k := p.requested_request n w
  generalize p.request n w = q at k ⊢
  cases k with
  | sweep j _ _ _ _ =>
    rw [(Part.startSlot_frame _ _ _ _).2.1]
    exact section_ j _ rfl
  | prepared j _ _ _ _ =>
    rw [(Part.doneOk_frame _ _ _).2.1]
    exact section_ j _ rfl
  | cancel m _ _ _ _ => exact ((p.calms_cancelWork m).congr (by simp) i).bounding
  | _ => simp

/-- The updates of the blocks that are no write of the topology window keep the bounding heads (R28). -/
theorem Part.bounding_update {aps : BitVec 4} (u : p.Update aps q) (i : SectionId) :
    q.scnt[i].bounding = p.scnt[i].bounding ∨
      ∃ j l w, p.topo.mode = .unconfigured ∧ q = p.topologyWrite aps j l w := by
  cases u with
  | topologyWrite j l w unc => exact .inr ⟨j, l, w, unc, rfl⟩
  | passage m h d _ => exact .inl (Part.calms_passage (p.tookScnt m) h d i).bounding
  | disturbance m h c _ => exact .inl (Part.calms_disturbAdjacent (p.tookScnt m) p.tbase.ms h c i).bounding
  | movement m h _ => exact .inl (Part.calms_movement (p.tookScnt m) h i).bounding
  | settleTick => exact .inl (p.calms_settleTick i).bounding
  | supervisionTick h a b => exact .inl (p.calms_supervisionTick h a b i).bounding
  | report m h c t _ _ => exact .inl (Part.calms_scoreEvent (p.tookSupv m) _ h c t none i).bounding
  | testReport m h c t _ _ => exact .inl (Part.calms_scoreEvent (p.tookSupv m).reportTaken _ h c t none i).bounding
  | copy => exact .inl (p.calms_takeCopy i).bounding
  | recheck => exact .inl (p.calms_topoSlowTick i).bounding
  | request n w => exact .inl (p.bounding_request n w i)
  | _ => exact .inl (by simp)

end

/-! ### The invariant -/

/-- The invariant of O54 as a record, which no proof unfolds by accident. -/
structure Vouches (p : Part) : Prop where
  proof : ∀ (i : SectionId) (e : HeadId × Side), e ∈ p.scnt[i].bounding →
    p.scnt[i].state.inProof = true → p.supv[e.1].health.outOfService = false
  beside : ∀ (i : SectionId) (e : HeadId × Side), e ∈ p.scnt[i].bounding → i ∈ p.adjacent e.1
  restart : ∀ h : HeadId, p.supv[h].restartSlot ≠ none → p.supv[h].health = .recovering

theorem proofOk_iff (p : Part) : ProofOk p ↔ Vouches p :=
  ⟨fun ⟨a, b, c⟩ => ⟨a, b, c⟩, fun ⟨a, b, c⟩ => ⟨a, b, c⟩⟩

theorem Health.outOfService_of_inService {x : Health} (h : x.inService = true) : x.outOfService = false := by
  obtain rfl | rfl | rfl := x.inService_iff.mp h <;> rfl

theorem Health.outOfService_of_ready {x : Health} (h : x.ready = true) : x.outOfService = false := by
  cases x with
  | healthy | marginal => rfl
  | _ => cases h

section
variable {p q : Part}

/-- A head with a restart slot is in a recovery, so a head in service has none. -/
theorem Vouches.restartSlot_of_inService (hp : Vouches p) (h : HeadId) (serv : p.supv[h].health.inService = true) :
    p.supv[h].restartSlot = none := by
  by_contra k
  rw [hp.restart h k] at serv
  cases serv

/-- No section comes into proof, and a head that goes out of service leaves none beside it in proof. -/
theorem Vouches.step (hp : Vouches p) (calm : p.Calms q) (heads : q.topo.params = p.topo.params)
    (service : ∀ h : HeadId, q.supv[h].health.outOfService = true → p.supv[h].health.outOfService = false →
      ∀ i ∈ p.adjacent h, q.scnt[i].state.inProof = false)
    (restart : ∀ h : HeadId, q.supv[h].restartSlot ≠ none → q.supv[h].health = .recovering) : Vouches q := by
  have adjacent (h : HeadId) : q.adjacent h = p.adjacent h := by
    simp only [Part.adjacent, Part.headEntry, heads]
  refine ⟨fun i e he st => ?_, fun i e he => ?_, restart⟩
  · rw [(calm i).bounding] at he
    have old := hp.proof i e he ((calm i).proof st)
    by_contra out
    have gone := service e.1 (by simpa using out) old i (hp.beside i e he)
    rw [gone] at st
    cases st
  · rw [(calm i).bounding] at he
    rw [adjacent]
    exact hp.beside i e he

/-- SUPV stays. -/
theorem Vouches.sections (hp : Vouches p) (calm : p.Calms q) (heads : q.topo.params = p.topo.params)
    (supv : q.supv = p.supv) : Vouches q :=
  hp.step calm heads (fun h k o => by rw [supv, o] at k; cases k) fun h k => by
    rw [supv] at k ⊢
    exact hp.restart h k

/-- SCNT and SUPV stay. -/
theorem Vouches.congr (hp : Vouches p) (e : q.scnt = p.scnt ∧ q.supv = p.supv ∧ q.topo.params = p.topo.params) :
    Vouches q := hp.sections (Part.calms_of_scnt e.1) e.2.2 e.2.1

/-- One head is written, SCNT stays: it was out of service already if it is so now. -/
theorem Vouches.set (hp : Vouches p) (h : HeadId) {v : HeadHealth}
    (supv : ∀ g : HeadId, q.supv[g] = if h = g then v else p.supv[g])
    (e : q.scnt = p.scnt ∧ q.topo.params = p.topo.params)
    (service : v.health.outOfService = true → p.supv[h].health.outOfService = true)
    (restart : v.restartSlot ≠ none → v.health = .recovering) : Vouches q := by
  refine hp.step (Part.calms_of_scnt e.1) e.2 (fun g out o => ?_) fun g => ?_
  · rw [supv] at out
    split at out
    · rename_i eq
      rw [← eq, service out] at o
      cases o
    · rw [out] at o
      cases o
  · rw [supv]
    split
    · exact restart
    · exact hp.restart g

theorem Vouches.setSupv (hp : Vouches p) (h : HeadId) {v : HeadHealth}
    (service : v.health.outOfService = true → p.supv[h].health.outOfService = true)
    (restart : v.restartSlot ≠ none → v.health = .recovering) : Vouches (p.setSupv h v) :=
  hp.set h (p.setSupv_get h · v) ⟨rfl, rfl⟩ service restart

/-- A head that fails disturbs the sections beside it in the same update (R44, R80). -/
theorem Vouches.scoreEvent (hp : Vouches p) (now : Word) (h : HeadId) (c : ScoreChange) (t : Trigger)
    (y : Option System) : Vouches (p.scoreEvent now h c t y) := by
  have k := p.scored_scoreEvent now h c t y
  have noSlot (serv : p.supv[h].health.inService = true) (new : Health) (n : Nat)
      (k : ({ p.supv[h] with score := n, health := new } : HeadHealth).restartSlot ≠ none) : new = .recovering :=
    absurd (hp.restartSlot_of_inService h serv) k
  generalize p.scoreEvent now h c t y = q at k ⊢
  cases k with
  | discarded _ => exact hp
  | same serv _ eq =>
    exact hp.setSupv h (by simp only [HeadHealth.withScore, eq]; exact id) (noSlot serv _ _)
  | changed serv _ _ nf =>
    refine hp.set h (v := p.supv[h].withScore (c.apply p.supv[h].score))
      (fun g => by rw [Part.record_supv, Part.setSupv_get]) (by simp) (fun out => ?_) (noSlot serv _ _)
    obtain k | k := healthAfter_inService p.supv[h].health (c.apply p.supv[h].score) serv
    · simp only [HeadHealth.withScore, Health.outOfService_of_inService k] at out
      cases out
    · exact absurd k nf
  | failed serv _ f =>
    generalize er : (p.setSupv h (p.supv[h].withScore (c.apply p.supv[h].score))).record now
      (.head h p.supv[h].health .failed (c.apply p.supv[h].score) t y) = r
    have supv (g : HeadId) : (r.headFails now h).supv[g] =
        if h = g then p.supv[h].withScore (c.apply p.supv[h].score) else p.supv[g] := by
      rw [(Part.headFails_frame _ _ _).1, ← er, Part.record_supv, Part.setSupv_get]
    have scnt : ((r.staleReports h).headOff now h).scnt = p.scnt := by rw [← er]; simp
    have topo : ((r.staleReports h).headOff now h).topo = p.topo := by rw [← er]; simp
    refine hp.step ((Part.calms_of_scnt scnt).trans (Part.calms_disturbAdjacent _ now h .headFailed)) ?_
      (fun g out o i hi => ?_) fun g slot => ?_
    · rw [Part.headFails, Part.disturbAdjacent_topo, topo]
    · rw [supv] at out
      split at out
      · rename_i eq
        exact Part.inProof_disturbAdjacent _ now h .headFailed i (by rw [Part.adjacent_congr h topo, eq]; exact hi)
      · rw [out] at o
        cases o
    · rw [supv] at slot ⊢
      split at slot
      · exact absurd (hp.restartSlot_of_inService h serv) slot
      · rename_i ne
        rw [if_neg ne]
        exact hp.restart g slot

theorem Vouches.recoveryDone (hp : Vouches p) (now : Word) (h : HeadId) : Vouches (p.recoveryDone now h) :=
  hp.set h (p.recoveryDone_supv_get now h) (by simp) (fun k => nomatch k) fun k => absurd rfl k

theorem Vouches.quietCheck (hp : Vouches p) (now : Word) (h : HeadId) : Vouches (p.quietCheck now h) := by
  simp only [Part.quietCheck]
  generalize (if quietNow p.hdec[h] p.supv[h] = true then p.supv[h].quiet + 1 else 0) = n
  have checked := hp.setSupv h (v := { p.supv[h] with quiet := n, refTimes := some p.hdec[h].edgeTimes }) id
    (hp.restart h)
  split
  · exact checked.recoveryDone now h
  · exact checked

theorem Vouches.supervisionTick (hp : Vouches p) (h : HeadId) (a b : Amp) : Vouches (p.supervisionTick h a b) := by
  obtain e | e | ⟨v, -, -, -, e⟩ := p.supervisionTick_cases h a b <;> rw [e]
  · exact hp
  · exact hp.congr (by simp)
  · have classed : Vouches (p.classed h a b) := hp.setSupv h id (hp.restart h)
    have scanned : Vouches (p.scanned v h a b) :=
      Part.scanned_keeps Vouches v h (fun _ c t y hq => hq.scoreEvent v h c t y) p a b classed
    have supervised : Vouches (p.superviseHead v h a b) := by
      rw [Part.superviseHead_eq]
      split
      · exact scanned.quietCheck v h
      · exact scanned
    exact supervised.congr (by simp)

theorem Vouches.slowHead (hp : Vouches p) (now : Word) (h : HeadId) : Vouches (p.slowHead now h) := by
  simp only [Part.slowHead]
  split_ifs with st limit
  · exact hp
  · have st := Decidable.of_not_not st
    exact hp.set h (p.restartTimesOut_supv_get now h) (by simp) (fun _ => by rw [st]; rfl) fun k => absurd rfl k
  · exact hp.setSupv h id (hp.restart h)

theorem Vouches.supvSlowTick (hp : Vouches p) : Vouches p.supvSlowTick := by
  obtain e | ⟨v, -, e⟩ := p.supvSlowTick_cases <;> rw [e]
  · exact hp
  · have kept : Vouches (p.setTicks { p.ticks with slowSupv := p.ticks.slowSupv.tail }) := hp.congr (by simp)
    split
    · exact foldl_keeps Vouches _ _ (fun _ hq h _ => hq.slowHead v h) _ kept
    · exact kept

theorem Vouches.cancelRestart (hp : Vouches p) (n : SlotId) : Vouches (p.cancelRestart n) := by
  obtain e | ⟨h, slot, e⟩ := p.cancelRestart_cases n <;> rw [e]
  · exact hp
  · have st := hp.restart h (by rw [slot]; exact Option.some_ne_none n)
    exact hp.set h (fun g => by rw [Part.record_supv, Part.setSupv_get]) (by simp) (fun _ => by rw [st]; rfl)
      fun k => absurd rfl k

/-- The two restorations ask for ready heads (R55, R56, R62). -/
theorem Vouches.restored (hp : Vouches p) (now : Word) (i : SectionId) {x : SectionRec}
    (b : x.bounding = p.scnt[i].bounding) (ready : p.headsReady i = true) : Vouches (p.updateSection now i x) := by
  have bounding (j : SectionId) : (p.updateSection now i x).scnt[j].bounding = p.scnt[j].bounding := by
    rw [Part.updateSection_get]
    split
    · rename_i e
      rw [SectionRec.counted_bounding, b, e]
    · rfl
  refine ⟨fun j e he st => ?_, fun j e he => ?_, fun h => ?_⟩
  · rw [bounding] at he
    rw [Part.updateSection_supv]
    rw [Part.updateSection_get] at st
    split at st
    · rename_i eq
      subst eq
      exact Health.outOfService_of_ready (List.all_eq_true.mp ready e he)
    · exact hp.proof j e he st
  · rw [bounding] at he
    rw [Part.adjacent_congr e.1 (Part.updateSection_topo p now i x)]
    exact hp.beside j e he
  · rw [Part.updateSection_supv]
    exact hp.restart h

theorem Vouches.request (hp : Vouches p) (n : SlotId) (w : Word) : Vouches (p.request n w) := by
  have k := p.requested_request n w
  generalize p.request n w = q at k ⊢
  cases k with
  | sweep i _ _ _ ok =>
    have accepted : Vouches (p.acceptSweep n i) := hp.restored p.tbase.ms i rfl ((p.sweepRefusal_eq_none i).mp ok).2
    exact accepted.congr (by simp)
  | prepared i _ _ _ ok =>
    obtain ⟨-, -, -, -, ready, -⟩ := (p.preparedRefusal_eq_none i).mp ok
    have accepted : Vouches (p.acceptPrepared i) := hp.restored p.tbase.ms i rfl ready
    exact accepted.congr (by simp)
  | restart h _ _ _ ok =>
    have st := (p.restartRefusal_eq_none h).mp ok
    have accepted : Vouches (p.acceptRestart n h) := hp.setSupv h (fun _ => by rw [st]; rfl) fun _ => rfl
    exact accepted.congr (by simp)
  | cancel m _ _ _ _ =>
    have work : Vouches (p.cancelWork m) := by
      unfold Part.cancelWork
      split_ifs
      · unfold Part.cancelSweep
        split
        · exact hp
        · exact hp.sections ((Part.calms_of_scnt rfl).updateSection _ _ (SectionRec.calm_disturb _ _ _))
            (by simp) (by simp)
      · exact hp.cancelRestart m
      · exact hp.congr (by simp)
    exact work.congr (by simp)
  | _ => exact hp.congr (by simp)

/-- The bounding heads of a section name it on a side (R28). -/
theorem Params.mem_bounding (c : Params) (i : SectionId) (e : HeadId × Side) (he : e ∈ c.bounding i) :
    c.heads[e.1].sideA = some i ∨ c.heads[e.1].sideB = some i := by
  obtain ⟨h, -, eq⟩ := List.mem_filterMap.mp he
  simp only [HeadEntry.sideNaming] at eq
  split_ifs at eq with a b <;> cases eq
  · exact .inl a
  · exact .inr b

/-- A commit puts every section out of proof (R51). -/
theorem Vouches.of_commit (p : Part) (check : BitVec 16) : Vouches (p.acceptCommit check) := by
  have inProof (c : Params) (i : SectionId) : (SectionRec.atCommit c i).state.inProof = false := by
    unfold SectionRec.atCommit
    split <;> rfl
  have bounding (c : Params) (i : SectionId) (e : HeadId × Side) (he : e ∈ (SectionRec.atCommit c i).bounding) :
      e ∈ c.bounding i := by
    unfold SectionRec.atCommit at he
    split at he
    · exact he
    · cases he
  have slot (u : Bool) : (HeadHealth.atCommit u).restartSlot = none := by cases u <;> rfl
  refine ⟨fun i e _ st => ?_, fun i e he => ?_, fun h k => ?_⟩
  · rw [Part.acceptCommit_scnt_get, inProof] at st
    cases st
  · rw [Part.acceptCommit_scnt_get] at he
    exact (Part.mem_adjacent _ _ _).mpr (Params.mem_bounding _ i e (bounding _ _ _ he))
  · rw [Part.acceptCommit_supv_get] at k
    exact absurd (slot _) k

theorem Vouches.topologyWrite (hp : Vouches p) (aps : BitVec 4) (i : Place) (l : Lanes) (w : Word) :
    Vouches (p.topologyWrite aps i l w) := by
  obtain e | ⟨-, -, e⟩ | ⟨-, -, e⟩ := p.topologyWrite_cases aps i l w <;> rw [e]
  · exact hp.congr ⟨rfl, rfl, rfl⟩
  · exact .of_commit _ _
  · exact hp.congr ⟨rfl, rfl, rfl⟩

/-- Every update of the blocks keeps it. -/
theorem Vouches.update {aps : BitVec 4} (hp : Vouches p) (u : p.Update aps q) : Vouches q := by
  cases u with
  | passage m h d _ => exact hp.sections (Part.calms_passage (p.tookScnt m) h d) (by simp) (by simp)
  | disturbance m h c _ =>
    exact hp.sections (Part.calms_disturbAdjacent (p.tookScnt m) p.tbase.ms h c) (by simp) (by simp)
  | movement m h _ => exact hp.sections (Part.calms_movement (p.tookScnt m) h) (by simp) (by simp)
  | settleTick => exact hp.sections p.calms_settleTick (by simp) (by simp)
  | supervisionTick h a b => exact hp.supervisionTick h a b
  | slowTick => exact hp.supvSlowTick
  | report m h c t _ _ => exact (hp.congr ⟨rfl, rfl, rfl⟩ : Vouches (p.tookSupv m)).scoreEvent _ h c t none
  | testReport m h c t _ _ =>
    exact (hp.congr ⟨rfl, rfl, rfl⟩ : Vouches (p.tookSupv m).reportTaken).scoreEvent _ h c t none
  | copy => exact hp.sections p.calms_takeCopy (by simp) (by simp)
  | recheck => exact hp.sections p.calms_topoSlowTick p.topoSlowTick_params (by simp)
  | request n w => exact hp.request n w
  | topologyWrite i l w _ => exact hp.topologyWrite _ i l w
  | corruption i b =>
    unfold Part.corruptShadow
    split <;> exact hp.congr ⟨rfl, rfl, rfl⟩
  | _ => exact hp.congr (by simp)

end

/-- Settles O54: no update takes a section into proof but the restorations, which ask for ready heads, and a head that
fails disturbs its sections. -/
theorem noProofBesideFailedHead : Obligations.NoProofBesideFailedHead := by
  intro s t hs e
  rw [proofOk_iff] at hs ⊢
  refine step_keeps Vouches (fun _ _ _ hp u => hp.update u) (fun p j hp => hp.congr ⟨rfl, rfl, rfl⟩)
    (fun p hp => hp.congr ⟨rfl, rfl, rfl⟩) (fun la lb n => ?_)
    s t hs e
  refine ⟨fun i e he => ?_, fun i e he => ?_, fun h k => ?_⟩
  · rw [Part.powerOn_scnt_get] at he
    cases he
  · rw [Part.powerOn_scnt_get] at he
    cases he
  · rw [Part.powerOn_supv_get] at k
    exact absurd rfl k

end Sys2Proof.Machine

/-! SUPPORT. The words of the topology and the nine checks of a commit: what each field reads, what each check finds, and
what an accepted commit has established (R109 to R114). -/

namespace Sys2Proof.Machine

open Sys2Proof

/-! ### Fields of a word -/

theorem field_eq (w : Word) (lo len : Nat) : field w lo len = w.toNat / 2 ^ lo % 2 ^ len := by
  simp [field, BitVec.extractLsb'_toNat, Nat.shiftRight_eq_div_pow]

/-- The lowest field of a word. -/
theorem field_zero (w : Word) (len : Nat) : field w 0 len = w.toNat % 2 ^ len := by simp [field_eq]

theorem sideOfField_eq_some (v : Nat) (i : SectionId) : sideOfField v = some i ↔ v = i.val := by
  unfold sideOfField
  split
  · simp [Fin.ext_iff]
  · have := i.isLt
    simp only [reduceCtorEq, false_iff]
    omega

section
variable (m : List (Nat × Word)) (h : HeadId) (i : SectionId)

theorem Params.ofShadow_heads : (Params.ofShadow m).heads[h] = headEntryOf (headEntryWord m h) := by
  simp [Params.ofShadow]

theorem Params.ofShadow_sections : (Params.ofShadow m).sections[i] = sectionEntryOf (sectionEntryWord m i) := by
  simp [Params.ofShadow]

/-- Side a of a head stands in bits 0 to 7 of its word (R110). -/
theorem Params.ofShadow_sideA :
    (Params.ofShadow m).heads[h].sideA = some i ↔ (headEntryWord m h).toNat % 256 = i.val := by
  rw [Params.ofShadow_heads, headEntryOf, sideOfField_eq_some, field_zero]
  rfl

/-- Side b of a head stands in bits 8 to 15 of its word (R110). -/
theorem Params.ofShadow_sideB :
    (Params.ofShadow m).heads[h].sideB = some i ↔ (headEntryWord m h).toNat / 256 % 256 = i.val := by
  rw [Params.ofShadow_heads, headEntryOf, sideOfField_eq_some, field_eq]
  rfl

end

/-! ### What each check finds -/

theorem within_iff (lo hi v : Nat) : within lo hi v = true ↔ lo ≤ v ∧ v ≤ hi := by simp [within]

theorem badHeadSides_iff (w : Word) : badHeadSides w = true ↔ sidesBad w := by
  have a : field w 0 8 = w.toNat % 256 := field_zero w 8
  have b : field w 8 8 = w.toNat / 256 % 256 := field_eq w 8 8
  simp only [badHeadSides, badSideField, Bool.or_eq_true, Bool.and_eq_true, within_iff, decide_eq_true_eq, a, b,
    or_assoc]

theorem badSectionEntry_iff (e : SectionEntry) :
    badSectionEntry e = true ↔ 15 < e.settle ∨ (e.prepared = true ∧ e.inUse = false) := by
  simp [badSectionEntry]

section
variable (c : Params) (h : HeadId) (i : SectionId)

theorem Params.namesUnused_iff :
    c.namesUnused h = true ↔ ∃ i : SectionId, c.names h i ∧ c.sections[i].inUse = false := by
  simp [Params.namesUnused, Params.names, or_and_right, exists_or]

theorem HeadEntry.used_iff (e : HeadEntry) : e.used = true ↔ ∃ i : SectionId, e.sideA = some i ∨ e.sideB = some i := by
  simp [HeadEntry.used, Option.isSome_iff_exists, exists_or]

theorem HeadEntry.sideNaming_isSome (e : HeadEntry) (i : SectionId) :
    (e.sideNaming i).isSome = true ↔ e.sideA = some i ∨ e.sideB = some i := by
  unfold HeadEntry.sideNaming
  split_ifs <;> simp_all

/-- A section has as many bounding heads as heads name it (R28). -/
theorem Params.length_bounding : (c.bounding i).length = c.namingHeads i := by
  simp only [Params.bounding, Params.namingHeads, List.length_filterMap_eq_countP, List.countP_eq_length_filter]
  congr 1
  refine List.filter_congr fun h _ => ?_
  rw [Option.isSome_map, Bool.eq_iff_iff, HeadEntry.sideNaming_isSome, decide_eq_true_eq]

theorem Params.isEmpty_bounding : (c.bounding i).isEmpty = true ↔ c.namingHeads i = 0 := by
  rw [List.isEmpty_iff_length_eq_zero, Params.length_bounding]

/-- Check 3 (R113). -/
theorem Params.ringMisplaced_iff (aps : BitVec 4) :
    c.ringMisplaced aps = true ↔
      c.ringCode < 4 ∨ 10 < c.ringCode ∨ c.ringBase.toNat % (16 * 2 ^ c.ringCode) ≠ 0 ∨
        c.ringBase.toNat / 0x10000 = 0xF0 + aps.toNat := by
  simp only [Params.ringMisplaced, Bool.or_eq_true, Bool.not_eq_true', ← Bool.not_eq_true, within_iff,
    decide_eq_true_eq]
  omega

/-- Check 9 (R113). -/
theorem Params.anyUsed_iff :
    (allHeads.any fun h => c.heads[h].used) = true ↔ ∃ (h : HeadId) (i : SectionId), c.names h i := by
  simp [allHeads, HeadEntry.used_iff, Params.names]

end

/-! ### The first that fails -/

/-- The first number that passes a test is found. -/
theorem find?_finRange_eq_some {n : Nat} (P : Fin n → Bool) (k : Fin n) (hk : P k = true)
    (first : ∀ j < k, P j = false) : (List.finRange n).find? P = some k := by
  rw [List.find?_eq_some_iff_getElem]
  refine ⟨hk, k.val, by simp, by simp, fun j hj => ?_⟩
  rw [List.getElem_finRange]
  simpa using first ⟨j, by omega⟩ hj

theorem find?_finRange_eq_none {n : Nat} (P : Fin n → Bool) (none : ∀ j, P j = false) :
    (List.finRange n).find? P = .none := by
  simpa [List.find?_eq_none] using none

/-- What the nine checks of an accepted commit have established (R113). -/
structure Params.Checked (c : Params) (m : List (Nat × Word)) (aps : BitVec 4) (check : BitVec 16) : Prop where
  toRing : c.passesToRing m aps check
  sides : ∀ h : HeadId, ¬ sidesBad (headEntryWord m h)
  inUse : ∀ (h : HeadId) (i : SectionId), c.names h i → c.sections[i].inUse = true
  named : ∀ i : SectionId, c.sections[i].inUse = true → c.namingHeads i ≠ 0
  atMost : ∀ i : SectionId, c.namingHeads i ≤ 8
  entries : ∀ i : SectionId, c.sections[i].settle ≤ 15 ∧ (c.sections[i].prepared = true → c.sections[i].inUse = true)
  used : ∃ (h : HeadId) (i : SectionId), c.names h i

/-- A commit is accepted when the nine checks pass (R113). -/
theorem checked_of_accepted (m : List (Nat × Word)) (aps : BitVec 4) (check : BitVec 16)
    (acc : (judgeCommit m aps check).1 = .accepted) : (Params.ofShadow m).Checked m aps check := by
  generalize hc : Params.ofShadow m = c
  simp only [judgeCommit, hc] at acc
  split at acc
  · cases acc
  rename_i sum
  split at acc
  · cases acc
  rename_i words
  split at acc
  · cases acc
  rename_i ring
  rw [Params.ringMisplaced_iff] at ring
  simp only [Params.judgeEntries] at acc
  split at acc
  · cases acc
  rename_i sides
  split at acc
  · cases acc
  rename_i inUse
  split at acc
  · cases acc
  rename_i named
  split at acc
  · cases acc
  rename_i atMost
  split at acc
  · cases acc
  rename_i entries
  split at acc
  case isFalse => cases acc
  rename_i used
  rw [Params.anyUsed_iff] at used
  simp only [allHeads, allSections, List.find?_eq_none, List.mem_finRange, forall_const, badHeadSides_iff,
    Params.namesUnused_iff, badSectionEntry_iff, Bool.and_eq_true, Params.isEmpty_bounding, Params.length_bounding,
    decide_eq_true_eq] at sides inUse named atMost entries
  refine ⟨⟨by simpa using sum, words, by omega, by omega, by omega, by omega⟩, sides, fun h i n => ?_, fun i u z => ?_,
    fun i => ?_, fun i => ?_, used⟩
  · by_contra k
    exact inUse h ⟨i, n, by simpa using k⟩
  · exact named i ⟨u, z⟩
  · exact Nat.le_of_not_lt (atMost i)
  · have := entries i
    refine ⟨by omega, fun k => ?_⟩
    by_contra u
    exact this (.inr ⟨k, by simpa using u⟩)

end Sys2Proof.Machine

/-! SUPPORT. The canonical form of RAM and shadow, and what the checks of a commit established: the RAM by what a step
does at the port, the shadow by the three operations that write it, the committed topology by the commit that makes it. -/

namespace Sys2Proof.Machine

open Sys2Proof

/-! ### The shadow -/

theorem Shadow.wf_topologyWrite {p : Part} (hp : Shadow.wf p.topo.shadow) (aps : BitVec 4) (i : Place) (l : Lanes)
    (w : Word) : Shadow.wf (p.topologyWrite aps i l w).topo.shadow := by
  have merged : Shadow.wf (p.merged i l w).topo.shadow := Shadow.merge_wf _ _ _ _ hp
  obtain e | ⟨-, -, e⟩ | ⟨-, -, e⟩ := p.topologyWrite_cases aps i l w <;> rw [e] <;> exact merged

theorem Shadow.wf_update {aps : BitVec 4} {p q : Part} (hp : Shadow.wf p.topo.shadow) (u : p.Update aps q) :
    Shadow.wf q.topo.shadow := by
  cases u with
  | topologyWrite i l w _ => exact Shadow.wf_topologyWrite hp _ i l w
  | corruption i b =>
    unfold Part.corruptShadow
    split
    · exact Shadow.set_wf _ _ _ hp
    · exact hp
  | recheck =>
    obtain ⟨-, e⟩ | ⟨v, rest, -, e⟩ := p.topoSlowTick_cases <;> rw [e]
    · exact hp
    · split <;> exact hp
  | _ => simpa using hp

/-! ### The committed topology -/

/-- The invariant of the topology as a record, which no proof unfolds by accident. -/
structure TopologyFits (p : Part) : Prop where
  sides : ∀ (h : HeadId) (i : SectionId), (p.headEntry h).sideA = some i → (p.headEntry h).sideB ≠ some i
  unplaced : p.topo.mode = .unconfigured → p.topo.ring = none
  committed : p.topo.mode ≠ .unconfigured →
    p.topo.params.badWord = none ∧ 4 ≤ p.topo.params.ringCode ∧ p.topo.params.ringCode ≤ 10 ∧
      p.topo.params.ringBase.toNat % (16 * 2 ^ p.topo.params.ringCode) = 0 ∧
      p.topo.ring = some { base := p.topo.params.ringBase.toNat, size := 16 * 2 ^ p.topo.params.ringCode } ∧
      (∀ h : HeadId, ∀ i ∈ p.adjacent h, (p.sectionEntry i).inUse = true) ∧
      (∀ i : SectionId, (p.sectionEntry i).inUse = true →
        p.scnt[i].bounding = p.topo.params.bounding i ∧ 1 ≤ p.scnt[i].bounding.length ∧
          p.scnt[i].bounding.length ≤ 8 ∧ (p.sectionEntry i).settle ≤ 15)

theorem topologyOk_iff (p : Part) : TopologyOk p ↔ TopologyFits p :=
  ⟨fun ⟨a, b, c⟩ => ⟨a, b, c⟩, fun ⟨a, b, c⟩ => ⟨a, b, c⟩⟩

/-- What the committed topology is read from stays. -/
structure Part.SameTopology (p q : Part) : Prop where
  params : q.topo.params = p.topo.params
  ring : q.topo.ring = p.topo.ring
  mode : q.topo.mode = .unconfigured ↔ p.topo.mode = .unconfigured
  bounding : ∀ i : SectionId, q.scnt[i].bounding = p.scnt[i].bounding

theorem TopologyFits.congr {p q : Part} (hp : TopologyFits p) (same : p.SameTopology q) : TopologyFits q := by
  obtain ⟨params, ring, mode, bounding⟩ := same
  have head (h : HeadId) : q.headEntry h = p.headEntry h := by simp only [Part.headEntry, params]
  have adjacent (h : HeadId) : q.adjacent h = p.adjacent h := by simp only [Part.adjacent, head]
  have entry (i : SectionId) : q.sectionEntry i = p.sectionEntry i := by simp only [Part.sectionEntry, params]
  refine ⟨fun h i => ?_, fun k => ?_, fun k => ?_⟩
  · rw [head]
    exact hp.sides h i
  · rw [ring]
    exact hp.unplaced (mode.mp k)
  · simp only [params, ring, adjacent, entry, bounding]
    exact hp.committed (mt mode.mpr k)

/-- Two head sides of a sound word name two sections (R113, check 4). -/
theorem Params.two_sides (m : List (Nat × Word)) (h : HeadId) (i : SectionId) (sound : ¬ sidesBad (headEntryWord m h))
    (a : (Params.ofShadow m).heads[h].sideA = some i) : (Params.ofShadow m).heads[h].sideB ≠ some i := by
  intro b
  rw [Params.ofShadow_sideA] at a
  rw [Params.ofShadow_sideB] at b
  exact sound (.inr (.inr ⟨a.trans b.symm, a ▸ i.isLt⟩))

/-- The checks of an accepted commit establish it for the parameters they judged (R113, R117). -/
theorem TopologyFits.of_checked {q : Part} {m : List (Nat × Word)} {aps : BitVec 4} {check : BitVec 16}
    (k : (Params.ofShadow m).Checked m aps check) (params : q.topo.params = Params.ofShadow m)
    (ring : q.topo.ring =
      some { base := (Params.ofShadow m).ringBase.toNat, size := 16 * 2 ^ (Params.ofShadow m).ringCode })
    (mode : q.topo.mode = .running)
    (bounding : ∀ i : SectionId, (Params.ofShadow m).sections[i].inUse = true →
      q.scnt[i].bounding = (Params.ofShadow m).bounding i) : TopologyFits q := by
  have head (h : HeadId) : q.headEntry h = (Params.ofShadow m).heads[h] := by simp only [Part.headEntry, params]
  have entry (i : SectionId) : q.sectionEntry i = (Params.ofShadow m).sections[i] := by
    simp only [Part.sectionEntry, params]
  obtain ⟨-, words, low, high, aligned, -⟩ := k.toRing
  refine ⟨fun h i => ?_, fun k => ?_, fun _ => ?_⟩
  · rw [head]
    exact Params.two_sides m h i (k.sides h)
  · rw [mode] at k
    cases k
  · rw [params]
    refine ⟨words, low, high, aligned, ring, fun h i hi => ?_, fun i used => ?_⟩
    · rw [entry]
      rw [Part.mem_adjacent, head] at hi
      exact k.inUse h i hi
    · rw [entry] at used ⊢
      rw [bounding i used, Params.length_bounding]
      exact ⟨rfl, Nat.one_le_iff_ne_zero.mpr (k.named i used), k.atMost i, (k.entries i).1⟩

theorem TopologyFits.acceptCommit (p : Part) (aps : BitVec 4) (check : BitVec 16)
    (acc : (judgeCommit p.topo.shadow aps check).1 = .accepted) : TopologyFits (p.acceptCommit check) := by
  refine .of_checked (checked_of_accepted _ _ _ acc) rfl rfl rfl fun i used => ?_
  rw [Part.acceptCommit_scnt_get, SectionRec.atCommit, if_pos used]

/-- The updates of the blocks keep the parameters, the ring region and whether they are committed, but for a write of
the topology window before the commit. -/
theorem Part.Update.params {aps : BitVec 4} {p q : Part} (u : p.Update aps q) :
    (q.topo.params = p.topo.params ∧ q.topo.ring = p.topo.ring ∧
      (q.topo.mode = .unconfigured ↔ p.topo.mode = .unconfigured)) ∨
      ∃ j l w, p.topo.mode = .unconfigured ∧ q = p.topologyWrite aps j l w := by
  cases u with
  | topologyWrite j l w unc => exact .inr ⟨j, l, w, unc, rfl⟩
  | recheck =>
    left
    obtain ⟨-, e⟩ | ⟨v, rest, -, e⟩ := p.topoSlowTick_cases <;> rw [e]
    · exact ⟨rfl, rfl, Iff.rfl⟩
    · split
      · rename_i k
        have run : p.topo.mode = .running := p.running_iff.mp (Bool.and_eq_true_iff.mp k).1
        exact ⟨rfl, rfl, by simp [Part.halt, run]⟩
      · exact ⟨rfl, rfl, Iff.rfl⟩
  | corruption i b =>
    left
    unfold Part.corruptShadow
    split <;> exact ⟨rfl, rfl, Iff.rfl⟩
  | _ => exact .inl (by simp)

theorem Part.Update.sameTopology {aps : BitVec 4} {p q : Part} (u : p.Update aps q) :
    p.SameTopology q ∨ ∃ j l w, p.topo.mode = .unconfigured ∧ q = p.topologyWrite aps j l w := by
  by_cases commit : ∃ j l w, p.topo.mode = .unconfigured ∧ q = p.topologyWrite aps j l w
  · exact .inr commit
  · obtain ⟨params, ring, mode⟩ := u.params.resolve_right commit
    exact .inl ⟨params, ring, mode, fun i => (Part.bounding_update u i).resolve_right commit⟩

theorem TopologyFits.update {aps : BitVec 4} {p q : Part} (hp : TopologyFits p) (u : p.Update aps q) :
    TopologyFits q := by
  obtain same | ⟨j, l, w, unc, rfl⟩ := u.sameTopology
  · exact hp.congr same
  · obtain e | ⟨-, acc, e⟩ | ⟨-, -, e⟩ := p.topologyWrite_cases aps j l w <;> rw [e]
    · exact hp.congr ⟨rfl, rfl, Iff.rfl, fun _ => rfl⟩
    · exact .acceptCommit _ aps _ acc
    · exact hp.congr ⟨rfl, rfl, Iff.rfl, fun _ => rfl⟩

theorem TopologyFits.powerOn (la lb : BitVec 32) (n : Nat) : TopologyFits (Part.powerOn la lb n) := by
  have head (h : HeadId) : (Part.powerOn la lb n).headEntry h = { sideA := none, sideB := none } := by
    simp [Part.headEntry, Part.powerOn, Topology.powerOn, Params.uncommitted]
  refine ⟨fun h i a => ?_, fun _ => rfl, fun k => absurd rfl k⟩
  rw [head] at a
  cases a

/-- Settles O56: the RAM by what a step does at the port, the shadow and the committed topology by the updates that
write them. -/
theorem storesInvariant : Obligations.StoresInvariant := by
  rintro s t ⟨mem, shadow, topo⟩ e
  rw [topologyOk_iff] at topo
  have kept : Shadow.wf t.part.topo.shadow ∧ TopologyFits t.part :=
    step_keeps (fun p => Shadow.wf p.topo.shadow ∧ TopologyFits p)
      (fun _ _ _ hp u => ⟨Shadow.wf_update hp.1 u, hp.2.update u⟩)
      (fun p j hp => ⟨hp.1, hp.2.congr ⟨rfl, rfl, Iff.rfl, fun _ => rfl⟩⟩)
      (fun p hp => ⟨hp.1, hp.2.congr ⟨rfl, rfl, Iff.rfl, fun _ => rfl⟩⟩)
      (fun la lb n => ⟨⟨List.Pairwise.nil, fun _ hc => nomatch hc⟩, .powerOn la lb n⟩) s t ⟨shadow, topo⟩ e
  refine ⟨?_, kept.1, (topologyOk_iff _).mpr kept.2⟩
  cases step_stepped s t e with
  | update _ port _ => exact port.mem mem
  | wordDone _ port _ _ => exact port.mem mem
  | porstOn _ _ port _ _ => exact port.mem mem
  | porstOff _ port _ _ _ _ => exact port.mem mem

end Sys2Proof.Machine

/-! SUPPORT. How the journal changes while JRNL takes records, starts a write or is given a consumer value, and what all
of these keep (R154 to R159). -/

namespace Sys2Proof.Machine

open Sys2Proof

/-- The journal after any number of records taken, writes started and consumer values accepted. -/
inductive Journal.Grows (k : Nat) (j : Journal) : Journal → Prop
  | refl : Grows k j j
  | take {q : Journal} (h : Grows k j q) (now : Word) (d : Detail) (kind : d.isHalt = false) :
      Grows k j (q.take k now d)
  | startWrite {q : Journal} (h : Grows k j q) : Grows k j (q.startWrite k)
  | consumer {q : Journal} (h : Grows k j q) (v : Nat) (range : v < 2 ^ k) : Grows k j { q with consumer := v }

theorem Journal.Grows.trans {k : Nat} {j q r : Journal} (h : j.Grows k q) (g : q.Grows k r) : j.Grows k r := by
  induction g with
  | refl => exact h
  | take _ now d kind ih => exact ih.take now d kind
  | startWrite _ ih => exact ih.startWrite
  | consumer _ v range ih => exact ih.consumer v range

/-! ### What a journal holds -/

/-- The queue, the counts and the ring places of a journal (R154 to R159). -/
structure Journal.Sound (k : Nat) (j : Journal) : Prop where
  length : j.queue.length ≤ 16
  dropped : j.dropped ≤ 65535
  producer : j.producer < 2 ^ k
  consumer : j.consumer < 2 ^ k
  seqs : j.seqsRise
  writing : j.writing ≠ none → j.queue ≠ []

/-- No record of the queue is a HALT record. -/
def Journal.NoHalt (j : Journal) : Prop := ∀ r ∈ j.queue, r.detail.isHalt = false

section
variable {k : Nat} {j : Journal}

/-- A record that enters takes the next number (R156). -/
theorem Journal.seqsRise_enter (h : j.seqsRise) (now : Word) (d : Detail) : (j.enter now d).seqsRise := by
  intro n hn
  simp only [Journal.enter, List.length_append, List.length_singleton] at hn ⊢
  by_cases old : n < j.queue.length
  · rw [List.getElem_append_left old, Nat.succ_sub (Nat.le_of_lt old), Nat.succ_eq_add_one, BitVec.ofNat_add, ← BitVec.add_assoc, h n old]
  · have eq : n = j.queue.length := by omega
    subst eq
    simp

theorem Journal.Sound.enter (h : j.Sound k) (place : j.queue.length < Config.queuePlaces) (now : Word) (d : Detail) :
    (j.enter now d).Sound k := by
  refine ⟨?_, h.dropped, h.producer, h.consumer, seqsRise_enter h.seqs now d, fun _ => ?_⟩
  · simpa [Journal.enter, Config.queuePlaces] using place
  · simp [Journal.enter]

theorem Journal.Sound.drop (h : j.Sound k) : j.drop.Sound k :=
  ⟨h.length, Nat.min_le_left _ _, h.producer, h.consumer, h.seqs, h.writing⟩

theorem Journal.Sound.withDropped (h : j.Sound k) : ({ j with dropped := 0 } : Journal).Sound k :=
  ⟨h.length, Nat.zero_le _, h.producer, h.consumer, h.seqs, h.writing⟩

theorem Journal.Sound.enterGap (h : j.Sound k) (place : j.queue.length < Config.queuePlaces) (now : Word) :
    (j.enterGap now).Sound k := (h.enter place now (.gap j.dropped)).withDropped

/-- The four rows of R155's table: the record enters or is dropped, behind a GAP record or not. -/
theorem Journal.queueRecord_cases (j : Journal) (now : Word) (d : Detail) :
    j.queueRecord now d = j.drop ∨
      (j.queue.length < Config.queuePlaces ∧ j.queueRecord now d = j.enter now d) ∨
      (j.queue.length < Config.queuePlaces ∧ j.queueRecord now d = (j.enterGap now).drop) ∨
      (j.queue.length < Config.queuePlaces ∧ (j.enterGap now).queue.length < Config.queuePlaces ∧
        j.queueRecord now d = (j.enterGap now).enter now d) := by
  by_cases place : j.queue.length < Config.queuePlaces
  swap
  · exact .inl (queueRecord_of_full (Nat.le_of_not_lt place))
  by_cases loss : j.dropped = 0
  · exact .inr (.inl ⟨place, queueRecord_of_none_dropped place loss⟩)
  by_cases second : (j.enterGap now).queue.length < Config.queuePlaces
  · exact .inr (.inr (.inr ⟨place, second, by
      rw [queueRecord_of_dropped place loss, enterOrDrop_of_place second]⟩))
  · exact .inr (.inr (.inl ⟨place, by
      rw [queueRecord_of_dropped place loss, enterOrDrop_of_full (Nat.le_of_not_lt second)]⟩))

theorem Journal.Sound.queueRecord (h : j.Sound k) (now : Word) (d : Detail) : (j.queueRecord now d).Sound k := by
  obtain e | ⟨place, e⟩ | ⟨place, e⟩ | ⟨place, second, e⟩ := j.queueRecord_cases now d <;> rw [e]
  · exact h.drop
  · exact h.enter place now d
  · exact (h.enterGap place now).drop
  · exact (h.enterGap place now).enter second now d

theorem Journal.Sound.startWrite (h : j.Sound k) (n : Nat) : (j.startWrite n).Sound k := by
  unfold Journal.startWrite
  split
  · rename_i c
    exact ⟨h.length, h.dropped, h.producer, h.consumer, h.seqs, fun _ => c.2.2.1⟩
  · exact h

theorem Journal.Sound.take (h : j.Sound k) (n : Nat) (now : Word) (d : Detail) : (j.take n now d).Sound k :=
  (h.queueRecord now d).startWrite n

theorem Journal.Sound.grows {q : Journal} (h : j.Sound k) (g : j.Grows k q) : q.Sound k := by
  induction g with
  | refl => exact h
  | take _ now d _ ih => exact ih.take k now d
  | startWrite _ ih => exact ih.startWrite k
  | consumer _ v range ih => exact ⟨ih.length, ih.dropped, ih.producer, range, ih.seqs, ih.writing⟩

/-! ### HALT records -/

theorem Journal.NoHalt.enter (h : j.NoHalt) (now : Word) (d : Detail) (kind : d.isHalt = false) :
    (j.enter now d).NoHalt := by
  intro r hr
  obtain hr | hr := List.mem_append.mp hr
  · exact h r hr
  · rw [List.mem_singleton.mp hr]
    exact kind

theorem Journal.NoHalt.take (h : j.NoHalt) (n : Nat) (now : Word) (d : Detail) (kind : d.isHalt = false) :
    (j.take n now d).NoHalt := by
  have gap : (j.enterGap now).NoHalt := h.enter now (.gap j.dropped) rfl
  have queued : (j.queueRecord now d).NoHalt := by
    obtain e | ⟨-, e⟩ | ⟨-, e⟩ | ⟨-, -, e⟩ := j.queueRecord_cases now d <;> rw [e]
    · exact h
    · exact h.enter now d kind
    · exact gap
    · exact gap.enter now d kind
  unfold Journal.take
  obtain e | e := (j.queueRecord now d).startWrite_keeps n <;> rw [e] <;> exact queued

theorem Journal.NoHalt.grows {q : Journal} (h : j.NoHalt) (g : j.Grows k q) : q.NoHalt := by
  induction g with
  | refl => exact h
  | take _ now d kind ih => exact ih.take k now d kind
  | @startWrite q _ ih =>
    obtain e | e := q.startWrite_keeps k <;> rw [e] <;> exact ih
  | consumer _ _ _ ih => exact ih

/-! ### The lines that stay -/

theorem Journal.startWrite_active (j : Journal) (n : Nat) : (j.startWrite n).active = j.active := by
  obtain e | e := j.startWrite_keeps n <;> rw [e]

theorem Journal.startWrite_halt (j : Journal) (n : Nat) : (j.startWrite n).halt = j.halt := by
  obtain e | e := j.startWrite_keeps n <;> rw [e]

/-- JRNL stays active or inactive, and the halt state stays. -/
theorem Journal.Grows.keeps {q : Journal} (g : j.Grows k q) : q.active = j.active ∧ q.halt = j.halt := by
  induction g with
  | refl => exact ⟨rfl, rfl⟩
  | take _ now d _ ih => simpa using ih
  | startWrite _ ih => simpa [Journal.startWrite_active, Journal.startWrite_halt] using ih
  | consumer _ _ _ ih => exact ih

/-! ### The word offered -/

/-- A word is offered when a record is in writing: its word at its place (R157). -/
theorem Journal.offered_eq_some (j : Journal) (base : Addr) (w : JournalWord) :
    j.offered base = some w ↔
      ∃ ix r rest, j.writing = some ix ∧ j.queue = r :: rest ∧
        { addr := j.wordAddr base ix, data := r.word ix } = w := by
  unfold Journal.offered
  split
  · rename_i ix r rest hw hq
    simp [hw, hq]
  · rename_i no
    simp only [reduceCtorEq, false_iff]
    rintro ⟨ix, r, rest, hw, hq, -⟩
    exact no ix r rest hw hq

theorem Journal.offered_eq_none (base : Addr) (h : j.writing = none) : j.offered base = none := by
  simp [Journal.offered, h]

/-- A record that enters leaves the record in writing (R154). -/
theorem Journal.offered_enter (base : Addr) (w : JournalWord) (h : j.offered base = some w) (now : Word) (d : Detail) :
    (j.enter now d).offered base = some w := by
  obtain ⟨ix, r, rest, hw, hq, e⟩ := (j.offered_eq_some base w).mp h
  rw [Journal.offered_eq_some]
  exact ⟨ix, r, rest ++ [_], hw, by simp only [Journal.enter, hq, List.cons_append]; rfl, e⟩

/-- No write starts while one is going on (R157). -/
theorem Journal.offered_startWrite (base : Addr) (w : JournalWord) (h : j.offered base = some w) (n : Nat) :
    (j.startWrite n).offered base = some w := by
  obtain ⟨ix, r, rest, hw, -⟩ := (j.offered_eq_some base w).mp h
  unfold Journal.startWrite
  rw [if_neg fun c => by simp [hw] at c]
  exact h

theorem Journal.offered_take (base : Addr) (w : JournalWord) (h : j.offered base = some w) (n : Nat) (now : Word)
    (d : Detail) : (j.take n now d).offered base = some w := by
  have gap : (j.enterGap now).offered base = some w := j.offered_enter base w h now (.gap j.dropped)
  refine offered_startWrite base w ?_ n
  obtain e | ⟨-, e⟩ | ⟨-, e⟩ | ⟨-, -, e⟩ := j.queueRecord_cases now d <;> rw [e]
  · exact h
  · exact offered_enter base w h now d
  · exact gap
  · exact offered_enter base w gap now d

theorem Journal.Grows.offered {q : Journal} (g : j.Grows k q) (base : Addr) (w : JournalWord)
    (h : j.offered base = some w) : q.offered base = some w := by
  induction g with
  | refl => exact h
  | take _ now d _ ih => exact offered_take base w ih k now d
  | startWrite _ ih => exact offered_startWrite base w ih k
  | consumer _ _ _ ih => exact ih

end

end Sys2Proof.Machine

/-! SUPPORT. Every update of the blocks but a commit and the change to HALTED gives JRNL records, none of them a HALT
record, and no other work; the journal and the port keep their forms. -/

namespace Sys2Proof.Machine

open Sys2Proof

/-- From `p` to `q` JRNL has only been given records, and TOPO stands. -/
structure Part.Logs (p q : Part) : Prop where
  topo : q.topo = p.topo
  jrnl : p.jrnl.Grows p.topo.params.ringCode q.jrnl

section
variable {p q r : Part}

theorem Part.Logs.refl (p : Part) : p.Logs p := ⟨rfl, .refl⟩

theorem Part.Logs.trans (h : p.Logs q) (g : q.Logs r) : p.Logs r :=
  ⟨g.topo.trans h.topo, h.jrnl.trans (h.topo ▸ g.jrnl)⟩

/-- JRNL and TOPO stay. -/
theorem Part.Logs.same (h : p.Logs q) (e : r.jrnl = q.jrnl ∧ r.topo = q.topo) : p.Logs r :=
  ⟨e.2.trans h.topo, e.1 ▸ h.jrnl⟩

theorem Part.logs_of_same (e : q.jrnl = p.jrnl ∧ q.topo = p.topo) : p.Logs q := (Logs.refl p).same e

theorem Part.Logs.record (h : p.Logs q) (now : Word) (d : Detail) (kind : d.isHalt = false) :
    p.Logs (q.record now d) := by
  refine h.trans ⟨by simp, ?_⟩
  unfold Part.record
  split
  · exact Journal.Grows.refl.take now d kind
  · exact .refl

theorem Part.Logs.fold {α : Type} (f : Part → α → Part) (l : List α) (hf : ∀ (q : Part) a, q.Logs (f q a)) (h : p.Logs q) :
    p.Logs (l.foldl f q) :=
  foldl_keeps p.Logs f l (fun q hq a _ => hq.trans (hf q a)) q h

end

/-! ### Shared operations -/

section
variable (p : Part) (now : Word) (h : HeadId)

theorem Part.logs_standingEnd (b : Bool) : p.Logs (p.standingEnd now h b) := by
  unfold Part.standingEnd
  split
  · exact (Logs.refl p).record now _ rfl
  · exact .refl p

theorem Part.logs_headOff : p.Logs (p.headOff now h) := by
  refine Logs.trans ?_ (Part.logs_standingEnd (p.setHdec h p.hdec[h].toOff) now h p.hdec[h].standing)
  exact logs_of_same ⟨rfl, rfl⟩

theorem Part.logs_finishSlot (n : SlotId) (st : SlotState) (r : Result) : p.Logs (p.finishSlot now n st r) :=
  (logs_of_same ⟨rfl, rfl⟩ : p.Logs (p.setSlot n _)).record now _ rfl

theorem Part.logs_reportSlot (b : Option SlotId) (k : Byte) (o : Nat) (st : SlotState) (r : Result) :
    p.Logs (p.reportSlot now b k o st r) := by
  unfold Part.reportSlot Part.report
  split
  · exact .refl p
  · split
    · exact p.logs_finishSlot now _ st r
    · exact .refl p

theorem Part.logs_updateSection (i : SectionId) (x : SectionRec) : p.Logs (p.updateSection now i x) := by
  have set : p.Logs (p.setScnt i (SectionRec.counted p.scnt[i] x)) := logs_of_same ⟨rfl, rfl⟩
  simp only [Part.updateSection]
  split
  · exact set
  · exact set.record now _ rfl

theorem Part.logs_applySections (l : List (SectionId × SectionRec)) : p.Logs (p.applySections now l) := by
  have updated : p.Logs (p.updateSections now l) :=
    Logs.fold _ l (fun q e => q.logs_updateSection now e.1 e.2) (.refl p)
  exact Logs.fold _ l (fun q e => q.logs_reportSlot now _ 1#8 e.1.val .failed .sweepBroken) updated

theorem Part.logs_disturbAdjacent (c : Cause) : p.Logs (p.disturbAdjacent now h c) := p.logs_applySections now _

/-! ### HDEC -/

theorem Part.logs_endTraverse (b : Bool) (o : PassageOutcome × Direction) : p.Logs (p.endTraverse h b o) := by
  have set : p.Logs (p.setHdec h { p.hdec[h] with phase := .idle, suspect := b, dwellStart := none, standing := false }) :=
    logs_of_same ⟨rfl, rfl⟩
  have ended := set.trans (Part.logs_standingEnd _ p.tbase.ms h p.hdec[h].standing)
  have recorded := ended.trans (r := Part.passageRecord _ h o) (by
    unfold Part.passageRecord
    split
    · exact (Logs.refl _).record _ _ rfl
    · exact .refl _)
  exact recorded.same (by simp [Part.endTraverse])

theorem Part.logs_handleEdge (x : HeadDecoder) (y : System) (d : EdgeDir) : p.Logs (p.handleEdge h x y d) := by
  have unsettled : p.Logs (p.unsettledEdge h) := by
    simp only [Part.unsettledEdge]
    split
    · refine Logs.trans ?_ (Part.logs_standingEnd _ _ h _)
      exact logs_of_same ⟨rfl, rfl⟩
    · exact logs_of_same ⟨rfl, rfl⟩
  have traverse : p.Logs (p.traverseEdge h x y d) := by
    simp only [Part.traverseEdge]
    split
    · exact (logs_of_same (by simp)).trans (Part.logs_endTraverse (p.separationReport h _) h _ _)
    · exact logs_of_same (by simp)
  unfold Part.handleEdge
  split
  · exact logs_of_same (by simp)
  · exact logs_of_same (by simp)
  · split
    · exact unsettled
    · exact .refl p
  · split
    · split
      · exact logs_of_same (by simp)
      · exact .refl p
    · exact .refl p
  · split
    · exact traverse
    · exact .refl p

theorem Part.logs_edgeAt (y : System) (d : EdgeDir) (period : Nat) : p.Logs (p.edgeAt h y d period) := by
  unfold Part.edgeAt
  split
  · exact .refl p
  · unfold Part.takeEdge
    exact (logs_of_same (by simp)).trans (Part.logs_handleEdge _ h _ y d)

theorem Part.logs_examineDwell : p.Logs (p.examineDwell h) := by
  unfold Part.examineDwell
  split
  · exact (logs_of_same ⟨rfl, rfl⟩ : p.Logs (p.setHdec h _)).record _ _ rfl
  · exact .refl p

/-! ### SCNT -/

theorem Part.logs_settleSection (i : SectionId) : p.Logs (p.settleSection now i) := by
  unfold Part.settleSection
  split_ifs
  · exact .refl p
  · exact logs_of_same ⟨rfl, rfl⟩
  · rw [Part.waitEnds_eq]
    exact (p.logs_updateSection now i _).trans (Part.logs_reportSlot _ now _ _ _ _ _)
  · exact logs_of_same ⟨rfl, rfl⟩

theorem Part.logs_settleTick : p.Logs p.settleTick := by
  obtain ⟨-, e⟩ | ⟨v, rest, -, e⟩ := p.settleTick_cases <;> rw [e]
  · exact .refl p
  · have taken : p.Logs (p.setTicks { p.ticks with scnt := rest }) := logs_of_same ⟨rfl, rfl⟩
    split
    · exact Logs.fold _ _ (fun q i => q.logs_settleSection v i) taken
    · exact taken

/-! ### SUPV -/

theorem Part.logs_scoreEvent (c : ScoreChange) (t : Trigger) (y : Option System) :
    p.Logs (p.scoreEvent now h c t y) := by
  have k := p.scored_scoreEvent now h c t y
  generalize p.scoreEvent now h c t y = q at k ⊢
  have scored : p.Logs (p.setSupv h (p.supv[h].withScore (c.apply p.supv[h].score))) := logs_of_same ⟨rfl, rfl⟩
  cases k with
  | discarded _ => exact .refl p
  | same _ _ _ => exact scored
  | changed _ _ _ _ => exact scored.record now _ rfl
  | failed _ _ _ =>
    have recorded := scored.record now (.head h p.supv[h].health .failed (c.apply p.supv[h].score) t y) rfl
    refine recorded.trans (Logs.trans ?_ (Part.logs_disturbAdjacent _ now h .headFailed))
    refine Logs.trans ?_ (Part.logs_headOff _ now h)
    exact logs_of_same ⟨rfl, rfl⟩

theorem Part.logs_recoveryDone : p.Logs (p.recoveryDone now h) := by
  simp only [Part.recoveryDone, Part.reportRestart_eq]
  have set : p.Logs (p.setSupv h (p.supv[h].endRecovery .healthy 0)) := logs_of_same ⟨rfl, rfl⟩
  have recorded := set.record now (.head h .recovering .healthy 0 .recovered none) rfl
  exact (recorded.trans (Part.logs_reportSlot _ now _ _ _ _ _)).same ⟨rfl, rfl⟩

theorem Part.logs_quietCheck : p.Logs (p.quietCheck now h) := by
  simp only [Part.quietCheck]
  generalize (if quietNow p.hdec[h] p.supv[h] = true then p.supv[h].quiet + 1 else 0) = n
  split
  · exact (logs_of_same ⟨rfl, rfl⟩ : p.Logs (p.setSupv h _)).trans (Part.logs_recoveryDone _ now h)
  · exact logs_of_same ⟨rfl, rfl⟩

theorem Part.logs_supervisionTick (a b : Amp) : p.Logs (p.supervisionTick h a b) := by
  obtain e | e | ⟨v, -, -, -, e⟩ := p.supervisionTick_cases h a b <;> rw [e]
  · exact .refl p
  · exact logs_of_same (by simp)
  · have scanned : p.Logs (p.scanned v h a b) :=
      Part.scanned_keeps p.Logs v h (fun q c t y hq => hq.trans (q.logs_scoreEvent v h c t y)) p a b
        (logs_of_same ⟨rfl, rfl⟩)
    have supervised : p.Logs (p.superviseHead v h a b) := by
      rw [Part.superviseHead_eq]
      split
      · exact scanned.trans (Part.logs_quietCheck _ v h)
      · exact scanned
    exact supervised.same (by simp)

theorem Part.logs_slowHead : p.Logs (p.slowHead now h) := by
  simp only [Part.slowHead]
  split_ifs
  · exact .refl p
  · simp only [Part.restartTimesOut, Part.reportRestart_eq]
    have set : p.Logs (p.setSupv h (p.supv[h].endRecovery .failed p.supv[h].score)) := logs_of_same ⟨rfl, rfl⟩
    have recorded := set.record now (.head h .recovering .failed p.supv[h].score .restartTimeout none) rfl
    exact recorded.trans (Part.logs_reportSlot _ now _ _ _ _ _)
  · exact logs_of_same ⟨rfl, rfl⟩

theorem Part.logs_supvSlowTick : p.Logs p.supvSlowTick := by
  obtain e | ⟨v, -, e⟩ := p.supvSlowTick_cases <;> rw [e]
  · exact .refl p
  · have taken : p.Logs (p.setTicks { p.ticks with slowSupv := p.ticks.slowSupv.tail }) := logs_of_same ⟨rfl, rfl⟩
    split
    · exact Logs.fold _ _ (fun q h => q.logs_slowHead v h) taken
    · exact taken

/-! ### TGEN -/

theorem Part.logs_testPasses : p.Logs (p.testPasses h) := by
  simp only [Part.testPasses, Part.reportTest_eq]
  have left : p.Logs ((p.setGen { p.gen.toIdle with reportPending := true }).leaveTest h) := logs_of_same ⟨rfl, rfl⟩
  have recorded := left.record p.tbase.ms (.test h p.gen.dir .pass none none) rfl
  exact (recorded.trans (Part.logs_reportSlot _ _ _ _ _ _ _)).same ⟨rfl, rfl⟩

theorem Part.logs_testFails (c : TestCheck) : p.Logs (p.testFails h c) := by
  simp only [Part.testFails, Part.reportTest_eq]
  have left : p.Logs ((p.setGen { p.gen.release p.hdec[h] with reportPending := true }).leaveTest h) :=
    logs_of_same ⟨rfl, rfl⟩
  have recorded := left.record p.tbase.ms (.test h p.gen.dir .fail (some p.gen.step) (some c)) rfl
  exact (recorded.trans (Part.logs_reportSlot _ _ _ _ _ _ _)).same ⟨rfl, rfl⟩

theorem Part.logs_testAborts : p.Logs (p.testAborts h) := by
  simp only [Part.testAborts, Part.reportTest_eq]
  have left : p.Logs ((p.setGen p.gen.toIdle).leaveTest h) := logs_of_same ⟨rfl, rfl⟩
  have recorded := left.record p.tbase.ms
    (.test h p.gen.dir .abort (recordStep p.gen.step) (some .unexpectedEdge)) rfl
  exact (recorded.trans (Part.logs_disturbAdjacent _ _ h .testAbort)).trans (Part.logs_reportSlot _ _ _ _ _ _ _)

theorem Part.logs_releaseAborts (c : TestCheck) : p.Logs (p.releaseAborts h c) := by
  have sent : p.Logs ((p.setGen p.gen.toIdle).sendScnt (.testAbort h)) := logs_of_same ⟨rfl, rfl⟩
  exact sent.record p.tbase.ms _ rfl

theorem Part.logs_cancelTest : p.Logs p.cancelTest := by
  simp only [Part.cancelTest]
  split
  · exact .refl p
  · rename_i h _
    split
    · exact (logs_of_same ⟨rfl, rfl⟩ : p.Logs ((p.setGen (p.gen.release p.hdec[h])).leaveTest h)).record _ _ rfl
    · exact .refl p

theorem Part.logs_stepDeadline : p.Logs p.stepDeadline := by
  have ends (q : Part) (h : HeadId) : q.Logs (q.stepEnds h) := by
    simp only [Part.stepEnds]
    split_ifs
    · exact q.logs_testFails h _
    · exact logs_of_same ⟨rfl, rfl⟩
    · exact q.logs_testPasses h
    · exact q.logs_testFails h _
  unfold Part.stepDeadline
  split
  · exact .refl p
  · split
    · exact (logs_of_same ⟨rfl, rfl⟩ : p.Logs (p.setGen p.gen.tickTaken)).trans (ends _ _)
    · exact .refl p

theorem Part.logs_releaseTimeEnd : p.Logs p.releaseTimeEnd := by
  unfold Part.releaseTimeEnd
  split
  · exact .refl p
  · split
    · unfold Part.releaseEnds
      split
      · exact p.logs_releaseAborts _ _
      · exact logs_of_same ⟨rfl, rfl⟩
    · exact .refl p

theorem Part.logs_takeAnswer : p.Logs p.takeAnswer := by
  unfold Part.takeAnswer
  split
  · exact .refl p
  · rename_i a rest _
    have taken : p.Logs (p.setSent { p.sent with answers := rest }) := logs_of_same ⟨rfl, rfl⟩
    unfold Part.judgeAnswer
    split
    · exact taken
    · split_ifs
      · exact taken
      · exact taken.trans (Part.logs_testFails _ _ _)
      · exact taken

theorem Part.logs_takeCopy : p.Logs p.takeCopy := by
  obtain ⟨-, e⟩ | ⟨c, rest, -, e⟩ := p.takeCopy_cases <;> rw [e]
  · exact .refl p
  · have taken : p.Logs (p.setSent { p.sent with copies := rest }) := logs_of_same ⟨rfl, rfl⟩
    have k := (p.setSent { p.sent with copies := rest }).judged_judgeCopy c
    generalize (p.setSent { p.sent with copies := rest }).judgeCopy c = q at k ⊢
    cases k with
    | aborts _ _ _ => exact taken.trans (Part.logs_testAborts _ _)
    | releaseAborts _ _ _ => exact taken.trans (Part.logs_releaseAborts _ _ _)
    | _ => exact taken.same ⟨rfl, rfl⟩

/-! ### REQE, JRNL and TBASE -/

theorem Part.logs_cancelWork (m : SlotId) : p.Logs (p.cancelWork m) := by
  unfold Part.cancelWork
  split_ifs
  · unfold Part.cancelSweep
    split
    · exact .refl p
    · exact p.logs_updateSection _ _ _
  · obtain e | ⟨h, -, e⟩ := p.cancelRestart_cases m <;> rw [e]
    · exact .refl p
    · exact (logs_of_same ⟨rfl, rfl⟩ : p.Logs (p.setSupv h _)).record _ _ rfl
  · exact p.logs_cancelTest

theorem Part.logs_doneOk (n : SlotId) (w : Word) : p.Logs (p.doneOk n w) :=
  (logs_of_same ⟨rfl, rfl⟩ : p.Logs (p.setSlot n _)).record _ _ rfl

theorem Part.logs_request (n : SlotId) (w : Word) : p.Logs (p.request n w) := by
  have k := p.requested_request n w
  generalize p.request n w = q at k ⊢
  cases k with
  | ignored => exact .refl p
  | slotBusy _ => exact (Logs.refl p).record _ _ rfl
  | refused _ r => exact (logs_of_same ⟨rfl, rfl⟩ : p.Logs (p.setSlot n _)).record _ _ rfl
  | sweep i _ _ _ _ => exact (p.logs_updateSection _ i _).same ⟨rfl, rfl⟩
  | prepared i _ _ _ _ => exact (p.logs_updateSection _ i _).trans (Part.logs_doneOk _ n w)
  | restart h _ _ _ _ => exact logs_of_same ⟨rfl, rfl⟩
  | test h _ _ _ _ => exact logs_of_same ⟨rfl, rfl⟩
  | cancel m _ _ _ _ =>
    exact ((p.logs_cancelWork m).trans (Part.logs_finishSlot _ _ m _ _)).trans (Part.logs_doneOk _ n w)

theorem Part.logs_consumerWrite (l : Lanes) (v : Word) (a : Addr) : p.Logs (p.consumerWrite l v a) := by
  unfold Part.consumerWrite
  split
  · unfold Part.consumerJudged
    split
    · rename_i k
      simp only [Journal.onTheWay, Bool.and_eq_true, decide_eq_true_eq] at k
      exact ⟨rfl, (Journal.Grows.refl.consumer v.toNat k.1).startWrite⟩
    · exact (Logs.refl p).record _ _ rfl
  · exact .refl p

theorem Part.logs_msTick : p.Logs p.msTick := by
  have examined : p.Logs p.examineAll := Logs.fold _ _ (fun q h => q.logs_examineDwell h) (.refl p)
  have pending (q : Part) : q.Logs q.takePendingTick := by
    unfold Part.takePendingTick
    split
    · exact (logs_of_same (by simp)).trans (Part.logs_releaseTimeEnd _)
    · exact (logs_of_same (by simp)).trans (Part.logs_stepDeadline _)
  exact (examined.trans (pending _)).same (by simp [Part.msTick, Part.lastTickTaken])

end

/-- Every update of the blocks but a write of the topology window, the re-check and a corruption of the shadow. -/
theorem Part.Update.logs {aps : BitVec 4} {p q : Part} (u : p.Update aps q) :
    p.Logs q ∨ (∃ j l w, p.topo.mode = .unconfigured ∧ q = p.topologyWrite aps j l w) ∨ q = p.topoSlowTick ∨
      (∃ j b, q = p.corruptShadow j b) := by
  have event (m : ToScnt) : p.Logs (p.tookScnt m) := logs_of_same ⟨rfl, rfl⟩
  cases u with
  | topologyWrite j l w unc => exact .inr (.inl ⟨j, l, w, unc, rfl⟩)
  | recheck => exact .inr (.inr (.inl rfl))
  | corruption j b => exact .inr (.inr (.inr ⟨j, b, rfl⟩))
  | edge h y d period => exact .inl (p.logs_edgeAt h y d period)
  | dwell h => exact .inl (p.logs_examineDwell h)
  | passage m h d _ => exact .inl ((event m).trans (Part.logs_applySections _ _ _))
  | disturbance m h c _ => exact .inl ((event m).trans (Part.logs_disturbAdjacent _ _ h c))
  | settleTick => exact .inl p.logs_settleTick
  | supervisionTick h a b => exact .inl (p.logs_supervisionTick h a b)
  | slowTick => exact .inl p.logs_supvSlowTick
  | report m h c t _ _ =>
    exact .inl ((logs_of_same ⟨rfl, rfl⟩ : p.Logs (p.tookSupv m)).trans (Part.logs_scoreEvent _ _ h c t _))
  | testReport m h c t _ _ =>
    exact .inl ((logs_of_same ⟨rfl, rfl⟩ : p.Logs (p.tookSupv m).reportTaken).trans
      (Part.logs_scoreEvent _ _ h c t _))
  | stepDeadline => exact .inl p.logs_stepDeadline
  | answer => exact .inl p.logs_takeAnswer
  | copy => exact .inl p.logs_takeCopy
  | releaseTimeEnd => exact .inl p.logs_releaseTimeEnd
  | violation a k => exact .inl ((Logs.refl p).record _ _ rfl)
  | request n w => exact .inl (p.logs_request n w)
  | consumerWrite l v a => exact .inl (p.logs_consumerWrite l v a)
  | startWrite => exact .inl ⟨rfl, Journal.Grows.refl.startWrite⟩
  | msTick => exact .inl p.logs_msTick
  | _ => exact .inl (logs_of_same (by simp))

end Sys2Proof.Machine

/-! SUPPORT. The journal's numbers and the port's single access: what the change to HALTED, a commit and the end of a
journal word do to the journal, and the word at the port (R132, R157 to R163). -/

namespace Sys2Proof.Machine

open Sys2Proof

section
variable {k : Nat} {j : Journal}

/-! ### The journal of an inactive JRNL -/

theorem Journal.queueRecord_writing (j : Journal) (now : Word) (d : Detail) :
    (j.queueRecord now d).writing = j.writing := by
  obtain e | ⟨-, e⟩ | ⟨-, e⟩ | ⟨-, -, e⟩ := j.queueRecord_cases now d <;> rw [e] <;> rfl

/-- An inactive JRNL starts no write (R157). -/
theorem Journal.startWrite_of_inactive (h : j.active = false) (n : Nat) : j.startWrite n = j :=
  if_neg fun c => by rw [h] at c; cases c.1

theorem Journal.queueRecord_active (j : Journal) (now : Word) (d : Detail) :
    (j.queueRecord now d).active = j.active := by
  obtain e | ⟨-, e⟩ | ⟨-, e⟩ | ⟨-, -, e⟩ := j.queueRecord_cases now d <;> rw [e] <;> rfl

theorem Journal.Grows.idle {q : Journal} (g : j.Grows k q) (off : j.active = false) : q.writing = j.writing := by
  induction g with
  | refl => rfl
  | @take q h now d _ ih =>
    have off' : (q.queueRecord now d).active = false := by rw [Journal.queueRecord_active, h.keeps.1, off]
    rw [Journal.take, Journal.startWrite_of_inactive off', Journal.queueRecord_writing, ih]
  | startWrite h ih => rw [Journal.startWrite_of_inactive (h.keeps.1.trans off), ih]
  | consumer _ _ _ ih => exact ih

/-! ### The change to HALTED (R163) -/

/-- The records of the slots that HALTED ends are taken as any others. -/
theorem Journal.grows_foldl (j : Journal) (k : Nat) (now : Word) (l : List Detail) (hl : ∀ d ∈ l, d.isHalt = false) :
    j.Grows k (l.foldl (fun q d => q.take k now d) j) :=
  foldl_keeps (j.Grows k) _ l (fun _ h d hd => h.take now d (hl d hd)) j .refl

theorem Part.haltRecords_isHalt (p : Part) : ∀ d ∈ p.haltRecords, d.isHalt = false := by
  intro d hd
  obtain ⟨n, -, e⟩ := List.mem_filterMap.mp hd
  split at e <;> cases e
  rfl

theorem Journal.Sound.halted (h : j.Sound k) (now : Word) (l : List Detail) (sum : BitVec 16)
    (hl : ∀ d ∈ l, d.isHalt = false) : (j.halted k now l sum).Sound k := by
  have grown := h.grows (j.grows_foldl k now l hl)
  simp only [Journal.halted]
  split
  · rename_i place
    exact (grown.withDropped.enter (hasPlace_iff.mp place) now _).startWrite k
  · exact ⟨grown.length, Nat.zero_le _, grown.producer, grown.consumer, grown.seqs, grown.writing⟩

theorem Journal.offered_halted (base : Addr) (w : JournalWord) (h : j.offered base = some w) (now : Word)
    (l : List Detail) (sum : BitVec 16) (hl : ∀ d ∈ l, d.isHalt = false) :
    (j.halted k now l sum).offered base = some w := by
  have grown := (j.grows_foldl k now l hl).offered base w h
  simp only [Journal.halted]
  split
  · refine offered_startWrite base w (offered_enter base w ?_ now _) k
    exact grown
  · exact grown

/-! ### The start at a commit (R162) -/

theorem Journal.sound_powerOn (k : Nat) : Journal.powerOn.Sound k :=
  ⟨Nat.zero_le _, Nat.zero_le _, Nat.two_pow_pos k, Nat.two_pow_pos k, fun _ h => (nomatch h),
    fun h => absurd rfl h⟩

theorem Journal.sound_started (check : BitVec 16) (k : Nat) (now : Word) : (Journal.started check k now).Sound k := by
  have on : ({ Journal.powerOn with active := true } : Journal).Sound k :=
    ⟨Nat.zero_le _, Nat.zero_le _, Nat.two_pow_pos k, Nat.two_pow_pos k, fun _ h => (nomatch h),
      fun h => absurd rfl h⟩
  exact on.take k now _

theorem Journal.noHalt_started (check : BitVec 16) (k : Nat) (now : Word) : (Journal.started check k now).NoHalt :=
  Journal.NoHalt.take (fun _ h => absurd h List.not_mem_nil) k now _ rfl

/-! ### The end of a journal word (R158) -/

/-- The numbers of what is left rise as before (R156). -/
theorem Journal.seqsRise_leaves (h : j.seqsRise) (r : JRecord) (rest : List JRecord) (e : j.queue = r :: rest) :
    (j.leaves k r rest).seqsRise := by
  intro n hn
  have old := h (n + 1) (by rw [e]; exact Nat.succ_lt_succ hn)
  simp only [e, List.getElem_cons_succ, List.length_cons, Nat.add_sub_add_right] at old
  exact old

theorem Journal.Sound.leaves (h : j.Sound k) (r : JRecord) (rest : List JRecord) (e : j.queue = r :: rest) :
    (j.leaves k r rest).Sound k := by
  have length := h.length
  rw [e, List.length_cons] at length
  exact ⟨Nat.le_of_succ_le length, h.dropped, Nat.mod_lt _ (Nat.two_pow_pos k), h.consumer,
    seqsRise_leaves h.seqs r rest e, fun k => absurd rfl k⟩

theorem Journal.Sound.enterHalt (h : j.Sound k) (now : Word) : (j.enterHalt now).Sound k := by
  unfold Journal.enterHalt
  split
  · rename_i sum dropped _
    split
    · rename_i place
      have entered := h.enter (hasPlace_iff.mp place) now (.halt sum dropped)
      exact ⟨entered.length, entered.dropped, entered.producer, entered.consumer, entered.seqs, entered.writing⟩
    · exact h
  · exact h

/-- What the end of a journal word makes of the journal (R157, R158, R163). -/
inductive Journal.WordDone (j : Journal) (k : Nat) (now : Word) : Journal → Prop
  | none (e : j.writing = none) : WordDone j k now j
  | next (ix nx : RecordWordIx) (e : j.writing = some ix) (n : ix.next = some nx) :
      WordDone j k now { j with writing := some nx }
  | empty (e : j.writing = some .w0) (q : j.queue = []) : WordDone j k now j
  | halt (e : j.writing = some .w0) (r : JRecord) (rest : List JRecord) (q : j.queue = r :: rest)
      (h : r.detail.isHalt = true) : WordDone j k now (j.leaves k r rest).stop
  | record (e : j.writing = some .w0) (r : JRecord) (rest : List JRecord) (q : j.queue = r :: rest)
      (h : r.detail.isHalt = false) : WordDone j k now (((j.leaves k r rest).enterHalt now).startWrite k)

theorem Journal.wordDone_cases (j : Journal) (k : Nat) (now : Word) : j.WordDone k now (j.wordDone k now) := by
  unfold Journal.wordDone
  split
  · exact .none ‹_›
  · rename_i ix e
    split
    · exact .next ix _ e ‹_›
    · rename_i last
      obtain rfl : ix = .w0 := by cases ix <;> cases last; rfl
      unfold Journal.recordDone
      split
      · exact .empty e ‹_›
      · rename_i r rest q
        split
        · exact .halt e r rest q ‹_›
        · rename_i h
          exact .record e r rest q (Bool.eq_false_of_not_eq_true h)

theorem Journal.Sound.wordDone (h : j.Sound k) (now : Word) : (j.wordDone k now).Sound k := by
  have c := j.wordDone_cases k now
  generalize j.wordDone k now = q at c ⊢
  cases c with
  | none _ => exact h
  | next ix nx e _ =>
    exact ⟨h.length, h.dropped, h.producer, h.consumer, h.seqs,
      fun _ => h.writing (by rw [e]; exact Option.some_ne_none ix)⟩
  | empty _ _ => exact h
  | halt _ r rest q _ =>
    have left := h.leaves r rest q
    exact ⟨left.length, left.dropped, left.producer, left.consumer, left.seqs, left.writing⟩
  | record _ r rest q _ => exact ((h.leaves r rest q).enterHalt now).startWrite k

end

/-! ### All blocks -/

/-- The invariant of the journal as a record, which no proof unfolds by accident. -/
structure JournalFits (p : Part) : Prop where
  sound : p.jrnl.Sound p.topo.params.ringCode
  unconfigured : p.topo.mode = .unconfigured → p.jrnl.active = false ∧ p.jrnl.writing = none
  running : p.topo.mode = .running → p.jrnl.active = true ∧ p.jrnl.halt = .none ∧ p.jrnl.NoHalt

theorem journalOk_iff (p : Part) : JournalOk p ↔ JournalFits p :=
  ⟨fun ⟨a, b, c, d, e, f, g, h⟩ => ⟨⟨a, b, c, d, e, f⟩, g, h⟩,
    fun ⟨⟨a, b, c, d, e, f⟩, g, h⟩ => ⟨a, b, c, d, e, f, g, h⟩⟩

section
variable {p q : Part}

theorem JournalFits.logs (hp : JournalFits p) (h : p.Logs q) : JournalFits q := by
  obtain ⟨topo, grows⟩ := h
  obtain ⟨active, halt⟩ := grows.keeps
  refine ⟨?_, fun m => ?_, fun m => ?_⟩
  · rw [topo]
    exact hp.sound.grows grows
  · rw [topo] at m
    obtain ⟨off, idle⟩ := hp.unconfigured m
    exact ⟨active.trans off, (grows.idle off).trans idle⟩
  · rw [topo] at m
    obtain ⟨on, none, records⟩ := hp.running m
    exact ⟨active.trans on, halt.trans none, records.grows grows⟩

/-- JRNL, the mode and the ring code stay. -/
theorem JournalFits.congr (hp : JournalFits p)
    (e : q.jrnl = p.jrnl ∧ q.topo.params = p.topo.params ∧ q.topo.mode = p.topo.mode) : JournalFits q := by
  obtain ⟨jrnl, params, mode⟩ := e
  refine ⟨?_, ?_, ?_⟩
  · rw [jrnl, params]
    exact hp.sound
  · rw [jrnl, mode]
    exact hp.unconfigured
  · rw [jrnl, mode]
    exact hp.running

theorem JournalFits.halt (hp : JournalFits p) (now : Word) (sum : BitVec 16) : JournalFits (p.halt now sum) :=
  ⟨hp.sound.halted now _ sum p.haltRecords_isHalt, fun m => (nomatch m), fun m => (nomatch m)⟩

theorem JournalFits.topoSlowTick (hp : JournalFits p) : JournalFits p.topoSlowTick := by
  obtain ⟨-, e⟩ | ⟨v, rest, -, e⟩ := p.topoSlowTick_cases <;> rw [e]
  · exact hp
  · have taken : JournalFits (p.setTicks { p.ticks with slowTopo := rest }) := hp.congr ⟨rfl, rfl, rfl⟩
    split
    · exact taken.halt _ _
    · exact taken

/-- JRNL starts at an accepted commit (R162). -/
theorem JournalFits.of_started (check : BitVec 16) (now : Word)
    (e : q.jrnl = Journal.started check q.topo.params.ringCode now) (m : q.topo.mode = .running) : JournalFits q := by
  refine ⟨?_, fun k => ?_, fun _ => ?_⟩
  · rw [e]
    exact Journal.sound_started _ _ _
  · rw [m] at k
    cases k
  · rw [e]
    exact ⟨by simp [Journal.started], by simp [Journal.started, Journal.powerOn], Journal.noHalt_started _ _ _⟩

theorem JournalFits.topologyWrite (hp : JournalFits p) (aps : BitVec 4) (i : Place) (l : Lanes) (w : Word) :
    JournalFits (p.topologyWrite aps i l w) := by
  obtain e | ⟨-, -, e⟩ | ⟨-, -, e⟩ := p.topologyWrite_cases aps i l w <;> rw [e]
  · exact hp.congr ⟨rfl, rfl, rfl⟩
  · exact .of_started (w.extractLsb' 16 16) p.tbase.ms rfl rfl
  · exact hp.congr ⟨rfl, rfl, rfl⟩

theorem JournalFits.update {aps : BitVec 4} (hp : JournalFits p) (u : p.Update aps q) : JournalFits q := by
  obtain logs | ⟨i, l, w, -, rfl⟩ | rfl | ⟨i, b, rfl⟩ := u.logs
  · exact hp.logs logs
  · exact hp.topologyWrite aps i l w
  · exact hp.topoSlowTick
  · unfold Part.corruptShadow
    split <;> exact hp.congr ⟨rfl, rfl, rfl⟩

/-- No HALT record leaves the queue in RUNNING (R163). -/
theorem JournalFits.wordDone (hp : JournalFits p) :
    JournalFits (p.setJrnl (p.jrnl.wordDone p.topo.params.ringCode p.tbase.ms)) := by
  have c := p.jrnl.wordDone_cases p.topo.params.ringCode p.tbase.ms
  have sound := hp.sound.wordDone p.tbase.ms
  refine ⟨sound, fun m => ?_, fun m => ?_⟩
  · obtain ⟨off, idle⟩ := hp.unconfigured m
    have same : p.jrnl.wordDone p.topo.params.ringCode p.tbase.ms = p.jrnl := by simp [Journal.wordDone, idle]
    rw [same]
    exact ⟨off, idle⟩
  · obtain ⟨on, none, records⟩ := hp.running m
    simp only [Part.setJrnl_jrnl]
    generalize p.jrnl.wordDone p.topo.params.ringCode p.tbase.ms = q at c ⊢
    cases c with
    | none _ => exact ⟨on, none, records⟩
    | next _ _ _ _ => exact ⟨on, none, records⟩
    | empty _ _ => exact ⟨on, none, records⟩
    | halt _ r rest e h =>
      have kind := records r (by rw [e]; exact List.mem_cons_self)
      rw [h] at kind
      cases kind
    | record _ r rest e _ =>
      have left : (p.jrnl.leaves p.topo.params.ringCode r rest).NoHalt := fun d hd =>
        records d (by rw [e]; exact List.mem_cons_of_mem _ hd)
      have same : (p.jrnl.leaves p.topo.params.ringCode r rest).enterHalt p.tbase.ms =
          p.jrnl.leaves p.topo.params.ringCode r rest := by
        simp [Journal.enterHalt, Journal.leaves, none]
      rw [same, Journal.startWrite_active, Journal.startWrite_halt]
      exact ⟨on, none, left.grows Journal.Grows.refl.startWrite⟩

/-- The word offered stays through every update of the blocks: before a commit there is none (R157). -/
theorem JournalFits.offered_update {aps : BitVec 4} (hp : JournalFits p) (u : p.Update aps q) (w : JournalWord)
    (h : p.offered = some w) : q.offered = some w := by
  obtain ⟨topo, grows⟩ | ⟨i, l, v, unc, -⟩ | rfl | ⟨i, b, rfl⟩ := u.logs
  · unfold Part.offered
    rw [topo]
    exact grows.offered _ w h
  · rw [Part.offered, Journal.offered_eq_none _ (hp.unconfigured unc).2] at h
    cases h
  · obtain ⟨-, e⟩ | ⟨v, rest, -, e⟩ := p.topoSlowTick_cases <;> rw [e]
    · exact h
    · split
      · exact Journal.offered_halted _ w h _ _ _ (Part.haltRecords_isHalt _)
      · exact h
  · unfold Part.corruptShadow
    split <;> exact h

end

/-- A port without a journal word is in order. -/
theorem State.portOk_of_free {t : State} (word : t.path.jword = none) (count : t.path.waitCount ≤ 16) : PortOk t :=
  ⟨fun w k => by rw [word] at k; exact (nomatch k), count⟩

/-- Settles O59: JRNL is given records and consumer values, which keep its numbers and the word it offers; a word that
starts at the port is the one offered. -/
theorem journalAndPortInvariant : Obligations.JournalAndPortInvariant := by
  rintro s t hj ⟨hw, hc⟩ e
  rw [journalOk_iff] at hj ⊢
  cases step_stepped s t e with
  | update _ port u =>
    refine ⟨hj.update u, fun w k => ?_, port.count hc⟩
    obtain none | ⟨same, holds⟩ | ⟨offered, holds⟩ := port.word
    · rw [none] at k
      cases k
    · rw [same] at k
      obtain ⟨offered, alone⟩ := hw w k
      exact ⟨hj.offered_update u w offered, by simpa [alone] using holds⟩
    · rw [offered] at k
      exact ⟨k, holds⟩
  | wordDone _ port word e => exact ⟨e ▸ hj.wordDone, State.portOk_of_free word (port.count hc)⟩
  | porstOn _ _ port word e =>
    refine ⟨?_, State.portOk_of_free word (port.count hc)⟩
    rw [e]
    obtain ⟨sound, unconfigured, running⟩ := hj
    exact ⟨⟨sound.length, sound.dropped, sound.producer, sound.consumer, sound.seqs, fun k => absurd rfl k⟩,
      fun m => ⟨(unconfigured m).1, rfl⟩, running⟩
  | porstOff _ port word la lb e =>
    refine ⟨?_, State.portOk_of_free word (port.count hc)⟩
    rw [e]
    exact ⟨Journal.sound_powerOn _, fun _ => ⟨rfl, rfl⟩, fun m => (nomatch m)⟩

end Sys2Proof.Machine

/-! SUPPORT. Slots in progress and the objects that carry them: each object that carries a slot is named by it, each slot
in progress has its object. An operation lets go of a slot by reporting it, or gives a free slot to an object that carries
none (R57, R82, R94, R144 to R148). -/

namespace Sys2Proof.Machine

open Sys2Proof

/-- The objects that carry a slot: a section in a sweep, a head in a restart, the generator in a test. -/
inductive Owner where
  | sweep (i : SectionId)
  | restart (h : HeadId)
  | test

/-- The object carries slot n. -/
def Part.holds (p : Part) : Owner → SlotId → Prop
  | .sweep i, n => p.scnt[i].slot = some n
  | .restart h, n => p.supv[h].restartSlot = some n
  | .test, n => p.gen.slot = some n

/-- The slot is in progress for the object. -/
def Part.worksFor (p : Part) (x : Slot) : Owner → Prop
  | .sweep i => x.serves 1#8 i.val
  | .restart h => x.serves 3#8 h.val
  | .test => p.gen.state = .running ∧ ∃ h : HeadId, p.gen.target = some h ∧ x.serves 4#8 h.val

/-- Objects and slots in progress belong together. -/
structure Part.Matched (p : Part) : Prop where
  works : ∀ (o : Owner) (n : SlotId), p.holds o n → p.worksFor p.slots[n] o
  held : ∀ n : SlotId, p.slots[n].busy = true → ∃ o, p.holds o n

/-- The invariant of O57: outside RUNNING no slot is in progress, in RUNNING slots and objects belong together. -/
structure SlotsFit (p : Part) : Prop where
  off : p.topo.mode ≠ .running → (∀ n : SlotId, p.slots[n].busy = false) ∧ p.gen.slot = none
  on : p.topo.mode = .running → p.Matched

theorem slotsOk_iff (p : Part) : SlotsOk p ↔ SlotsFit p := by
  constructor
  · rintro ⟨off, on⟩
    refine ⟨off, fun m => ?_⟩
    obtain ⟨sweeps, restarts, test, busy⟩ := on m
    refine ⟨fun o n k => ?_, fun n k => ?_⟩
    · cases o with
      | sweep i => exact sweeps i n k
      | restart h => exact restarts h n k
      | test => exact test n k
    · obtain ⟨i, -, k⟩ | ⟨h, -, k⟩ | ⟨-, k⟩ := busy n k
      · exact ⟨.sweep i, k⟩
      · exact ⟨.restart h, k⟩
      · exact ⟨.test, k⟩
  · rintro ⟨off, on⟩
    refine ⟨off, fun m => ?_⟩
    obtain ⟨works, held⟩ := on m
    refine ⟨fun i n k => works (.sweep i) n k, fun h n k => works (.restart h) n k, fun n k => works .test n k,
      fun n k => ?_⟩
    obtain ⟨o, k⟩ := held n k
    have w := works o n k
    cases o with
    | sweep i => exact .inl ⟨i, w, k⟩
    | restart h => exact .inr (.inl ⟨h, w, k⟩)
    | test =>
      obtain ⟨-, -, -, -, kind, -⟩ := w
      exact .inr (.inr ⟨kind, k⟩)

/-! ### Slots -/

/-- What a slot is in progress for stays. -/
structure Slot.SameWork (x y : Slot) : Prop where
  busy : y.busy = x.busy
  kind : y.kind = x.kind
  target : y.target = x.target

theorem Slot.SameWork.of_eq {x y : Slot} (e : y = x) : x.SameWork y := e ▸ ⟨rfl, rfl, rfl⟩

theorem Slot.SameWork.serves {x y : Slot} (s : x.SameWork y) {k : Byte} {o : Nat} (h : x.serves k o) : y.serves k o := by
  obtain ⟨busy, kind, target⟩ := h
  exact ⟨s.busy.trans busy, s.kind.trans kind, by rw [s.target, target]⟩

/-- A slot serves one kind on one object. -/
theorem Slot.serves_unique {x : Slot} {k k' : Byte} {o o' : Nat} (h : x.serves k o) (h' : x.serves k' o') :
    k = k' ∧ o = o' := ⟨h.2.1.symm.trans h'.2.1, h.2.2.symm.trans h'.2.2⟩

section
variable {p q r : Part}

/-- A slot in progress works for one object. -/
theorem Part.worksFor_unique {x : Slot} {o o' : Owner} (h : p.worksFor x o) (h' : p.worksFor x o') : o = o' := by
  cases o with
  | sweep i =>
    cases o' with
    | sweep j => rw [Fin.ext (Slot.serves_unique h h').2]
    | restart g => exact absurd (Slot.serves_unique h h').1 (by decide)
    | test =>
      obtain ⟨-, _, -, h'⟩ := h'
      exact absurd (Slot.serves_unique h h').1 (by decide)
  | restart g =>
    cases o' with
    | sweep j => exact absurd (Slot.serves_unique h h').1 (by decide)
    | restart g' => rw [Fin.ext (Slot.serves_unique h h').2]
    | test =>
      obtain ⟨-, _, -, h'⟩ := h'
      exact absurd (Slot.serves_unique h h').1 (by decide)
  | test =>
    obtain ⟨-, _, -, h⟩ := h
    cases o' with
    | sweep j => exact absurd (Slot.serves_unique h h').1 (by decide)
    | restart g => exact absurd (Slot.serves_unique h h').1 (by decide)
    | test => rfl

theorem Part.worksFor_busy {x : Slot} {o : Owner} (h : p.worksFor x o) : x.busy = true := by
  cases o with
  | sweep i => exact h.1
  | restart g => exact h.1
  | test =>
    obtain ⟨-, _, -, h⟩ := h
    exact h.1

/-- TGEN's part in it: the test goes on, or it is not asked about. -/
def Part.SameTest (p q : Part) : Prop := q.gen.state = p.gen.state ∧ q.gen.target = p.gen.target

theorem Part.worksFor_same {x y : Slot} {o : Owner} (s : x.SameWork y) (t : o = .test → p.SameTest q)
    (h : p.worksFor x o) : q.worksFor y o := by
  cases o with
  | sweep i => exact s.serves h
  | restart g => exact s.serves h
  | test =>
    obtain ⟨st, g, target, h⟩ := h
    obtain ⟨st', target'⟩ := t rfl
    exact ⟨st'.trans st, g, target'.trans target, s.serves h⟩

/-- A slot is carried by one object. -/
theorem Part.Matched.unique (m : p.Matched) {o o' : Owner} {n : SlotId} (h : p.holds o n) (h' : p.holds o' n) :
    o = o' := worksFor_unique (m.works o n h) (m.works o' n h')

theorem Part.Matched.busy (m : p.Matched) {o : Owner} {n : SlotId} (h : p.holds o n) : p.slots[n].busy = true :=
  worksFor_busy (m.works o n h)

/-- Objects let go of slots that are ended in the same update, the others keep theirs. -/
theorem Part.Matched.release (m : p.Matched) (kept : ∀ o n, q.holds o n → p.holds o n ∧ p.slots[n].SameWork q.slots[n])
    (test : (∃ n, q.holds .test n) → p.SameTest q)
    (busy : ∀ n : SlotId, q.slots[n].busy = true → p.slots[n].busy = true ∧ ∀ o, p.holds o n → q.holds o n) :
    q.Matched := by
  refine ⟨fun o n k => ?_, fun n k => ?_⟩
  · obtain ⟨k', s⟩ := kept o n k
    exact worksFor_same s (fun e => test ⟨n, e ▸ k⟩) (m.works o n k')
  · obtain ⟨b, all⟩ := busy n k
    obtain ⟨o, k⟩ := m.held n b
    exact ⟨o, all o k⟩

/-- One object lets go of the slot it carries, if any. -/
theorem Part.Matched.releaseOne (m : p.Matched) (o : Owner) (holds : ∀ o' n, q.holds o' n ↔ p.holds o' n ∧ o' ≠ o)
    (test : o ≠ .test → p.SameTest q) (freed : ∀ n, p.holds o n → q.slots[n].busy = false)
    (kept : ∀ n : SlotId, ¬ p.holds o n → p.slots[n].SameWork q.slots[n]) : q.Matched := by
  refine m.release (fun o' n k => ?_) (fun ⟨n, k⟩ => test fun e => ?_) fun n b => ?_
  · obtain ⟨k, ne⟩ := (holds o' n).mp k
    exact ⟨k, kept n fun k' => ne (m.unique k k')⟩
  · exact ((holds _ n).mp k).2 e.symm
  · have free : ¬ p.holds o n := fun k => by rw [freed n k] at b; cases b
    exact ⟨(kept n free).busy ▸ b, fun o' k => (holds o' n).mpr ⟨k, fun e => free (e ▸ k)⟩⟩

/-- A free slot goes to an object that carries none. -/
theorem Part.Matched.assign (m : p.Matched) (o : Owner) (n : SlotId) (free : p.slots[n].busy = false)
    (holds : ∀ o' n', q.holds o' n' ↔ (p.holds o' n' ∧ o' ≠ o) ∨ (o' = o ∧ n' = n)) (none : ∀ n', ¬ p.holds o n')
    (test : o ≠ .test → p.SameTest q) (works : q.worksFor q.slots[n] o)
    (kept : ∀ n' : SlotId, n' ≠ n → p.slots[n'].SameWork q.slots[n']) : q.Matched := by
  refine ⟨fun o' n' k => ?_, fun n' b => ?_⟩
  · obtain ⟨k, ne⟩ | ⟨rfl, rfl⟩ := (holds o' n').mp k
    · have other : n' ≠ n := fun e => by
        have := m.busy k
        rw [e, free] at this
        cases this
      exact worksFor_same (kept n' other) (fun e => test fun e' => ne (e.trans e'.symm)) (m.works o' n' k)
    · exact works
  · by_cases e : n' = n
    · exact ⟨o, (holds o n').mpr (.inr ⟨rfl, e⟩)⟩
    · obtain ⟨o', k⟩ := m.held n' ((kept n' e).busy ▸ b)
      exact ⟨o', (holds o' n').mpr (.inl ⟨k, fun eq => none n' (eq ▸ k)⟩)⟩

/-! ### Operations that give no slot to an object -/

/-- No slot comes into progress, TGEN takes none, and slots and objects that belong together go on doing so. -/
structure Part.Frees (p q : Part) : Prop where
  mode : q.topo.mode = p.topo.mode
  busy : ∀ n : SlotId, q.slots[n].busy = true → p.slots[n].busy = true
  test : ∀ n, q.gen.slot = some n → p.gen.slot = some n
  matched : p.Matched → q.Matched

theorem Part.Frees.refl (p : Part) : p.Frees p := ⟨rfl, fun _ => id, fun _ => id, id⟩

theorem Part.Frees.trans (h : p.Frees q) (k : q.Frees r) : p.Frees r :=
  ⟨k.mode.trans h.mode, fun n b => h.busy n (k.busy n b), fun n t => h.test n (k.test n t),
    fun m => k.matched (h.matched m)⟩

theorem SlotsFit.frees (hp : SlotsFit p) (h : p.Frees q) : SlotsFit q := by
  refine ⟨fun m => ?_, fun m => h.matched (hp.on (h.mode ▸ m))⟩
  obtain ⟨busy, slot⟩ := hp.off (h.mode ▸ m)
  refine ⟨fun n => ?_, ?_⟩
  · by_contra k
    have b := h.busy n (by simpa using k)
    rw [busy] at b
    cases b
  · rw [Option.eq_none_iff_forall_ne_some]
    intro n k
    have b := h.test n k
    rw [slot] at b
    cases b

/-- Every object keeps what it carries, every slot what it is in progress for. -/
theorem Part.frees_of_same (mode : q.topo.mode = p.topo.mode) (sections : ∀ i : SectionId, q.scnt[i].slot = p.scnt[i].slot)
    (heads : ∀ h : HeadId, q.supv[h].restartSlot = p.supv[h].restartSlot)
    (gen : q.gen.slot = p.gen.slot ∧ p.SameTest q) (slots : ∀ n : SlotId, p.slots[n].SameWork q.slots[n]) :
    p.Frees q := by
  have holds (o : Owner) (n : SlotId) : q.holds o n ↔ p.holds o n := by
    cases o with
    | sweep i => simp only [Part.holds, sections]
    | restart h => simp only [Part.holds, heads]
    | test => simp only [Part.holds, gen.1]
  refine ⟨mode, fun n b => (slots n).busy ▸ b, fun n k => gen.1 ▸ k, fun m => ?_⟩
  exact m.release (fun o n k => ⟨(holds o n).mp k, slots n⟩) (fun _ => gen.2)
    fun n b => ⟨(slots n).busy ▸ b, fun o => (holds o n).mpr⟩

/-- The tables and what TGEN's test goes by stay. -/
theorem Part.frees_of_tables (e : q.topo.mode = p.topo.mode ∧ q.scnt = p.scnt ∧ q.supv = p.supv ∧ q.slots = p.slots ∧
    q.gen.slot = p.gen.slot ∧ q.gen.state = p.gen.state ∧ q.gen.target = p.gen.target) : p.Frees q := by
  obtain ⟨mode, scnt, supv, slots, slot, state, target⟩ := e
  exact frees_of_same mode (fun i => by rw [scnt]) (fun h => by rw [supv]) ⟨slot, state, target⟩
    fun n => .of_eq (by rw [slots])

/-! ### Events at sections -/

/-- A section keeps the slot it carries, or lets go of it as its sweep breaks (R43). -/
def SectionRec.KeepsOrBreaks (x y : SectionRec) : Prop :=
  (y.slot = x.slot ∧ SectionRec.broken x y = none) ∨ (y.slot = none ∧ SectionRec.broken x y = x.slot)

theorem SectionRec.keepsOrBreaks_of_same {x y : SectionRec} (slot : y.slot = x.slot)
    (st : x.state = .disturbed ∨ y.state ≠ .disturbed) : x.KeepsOrBreaks y := by
  refine .inl ⟨slot, if_neg fun ⟨a, b⟩ => ?_⟩
  obtain st | st := st
  · exact a st
  · exact st b

theorem SectionRec.keepsOrBreaks_disturb (x : SectionRec) (c : Cause) (m : Bool) (st : x.state ≠ .disturbed) :
    x.KeepsOrBreaks (x.disturb c m) := .inr ⟨rfl, if_pos ⟨st, rfl⟩⟩

theorem SectionRec.keepsOrBreaks_disturbOrMark (x : SectionRec) (c : Cause) : x.KeepsOrBreaks (x.disturbOrMark c) := by
  obtain h | h | h := x.disturbable_cases
  · rw [x.disturbOrMark_of_disturbed c h]
    exact keepsOrBreaks_of_same rfl (.inl h)
  · rw [x.disturbOrMark_of_unused c h]
    exact keepsOrBreaks_of_same rfl (.inr (by rw [h]; decide))
  · rw [x.disturbOrMark_of_disturbable c h]
    exact x.keepsOrBreaks_disturb c false h.1

theorem SectionRec.keepsOrBreaks_enter (x : SectionRec) : x.KeepsOrBreaks x.enter := by
  cases st : x.state with
  | clear => rw [enter_of_clear st]; exact keepsOrBreaks_of_same rfl (.inr (by simp))
  | occupied =>
    rw [enter_of_holdsCount (holdsCount_of_occupied st)]
    split
    · exact keepsOrBreaks_of_same rfl (.inr (by simp [st]))
    · exact x.keepsOrBreaks_disturb _ _ (by simp [st])
  | sweeping =>
    rw [enter_of_holdsCount (holdsCount_of_sweeping st)]
    split
    · exact keepsOrBreaks_of_same rfl (.inr (by simp [st]))
    · exact x.keepsOrBreaks_disturb _ _ (by simp [st])
  | settling =>
    by_cases hs : x.slot = none
    · rw [enter_of_settling_without_slot st hs]; exact keepsOrBreaks_of_same rfl (.inr (by simp))
    · rw [enter_of_settling_with_slot st hs]; exact keepsOrBreaks_of_same rfl (.inr (by simp))
  | sweepWait => rw [enter_of_sweepWait st]; exact keepsOrBreaks_of_same rfl (.inr (by simp))
  | disturbed => rw [enter_of_disturbed st]; exact keepsOrBreaks_of_same rfl (.inl st)
  | unused => simp only [SectionRec.enter, st]; exact keepsOrBreaks_of_same rfl (.inr (by simp [st]))

theorem SectionRec.keepsOrBreaks_leave (x : SectionRec) (code : Nat) : x.KeepsOrBreaks (x.leave code) := by
  cases st : x.state with
  | clear => rw [leave_of_holdsNone (holdsNone_of_clear st)]; exact x.keepsOrBreaks_disturb _ _ (by simp [st])
  | settling => rw [leave_of_holdsNone (holdsNone_of_settling st)]; exact x.keepsOrBreaks_disturb _ _ (by simp [st])
  | sweepWait => rw [leave_of_holdsNone (holdsNone_of_sweepWait st)]; exact x.keepsOrBreaks_disturb _ _ (by simp [st])
  | occupied =>
    rw [leave_of_holdsCount (holdsCount_of_occupied st)]
    split
    · exact keepsOrBreaks_of_same rfl (.inr (by simp [st]))
    · exact keepsOrBreaks_of_same rfl (.inr (by simp))
  | sweeping =>
    rw [leave_of_holdsCount (holdsCount_of_sweeping st)]
    split
    · exact keepsOrBreaks_of_same rfl (.inr (by simp [st]))
    · exact keepsOrBreaks_of_same rfl (.inr (by simp))
  | disturbed => rw [leave_of_disturbed st]; exact keepsOrBreaks_of_same rfl (.inl st)
  | unused => simp only [SectionRec.leave, st]; exact keepsOrBreaks_of_same rfl (.inr (by simp [st]))

/-- An event at sections ends the slots of the sweeps it breaks, and the sections concerned let go of them (R43). -/
theorem Part.frees_applySections (p : Part) (now : Word) (l : List (SectionId × SectionRec))
    (nodup : (l.map Prod.fst).Nodup) (hl : ∀ e ∈ l, p.scnt[e.1].KeepsOrBreaks e.2) :
    p.Frees (p.applySections now l) := by
  have slots (n : SlotId) := p.applySections_slots_get now l n
  have named (e : SectionId × SectionRec) (he : e ∈ l) : (p.applySections now l).scnt[e.1].slot = e.2.slot := by
    rw [p.applySections_get now l nodup e he, SectionRec.counted_slot]
  have other (i : SectionId) (hi : ∀ e ∈ l, e.1 ≠ i) : (p.applySections now l).scnt[i].slot = p.scnt[i].slot := by
    rw [p.applySections_get_other now l i hi]
  have broken (m : p.Matched) (e : SectionId × SectionRec) (n : SlotId)
      (b : SectionRec.broken p.scnt[e.1] e.2 = some n) : p.holds (.sweep e.1) n :=
    ((SectionRec.broken_iff _ _ n).mp b).1
  refine ⟨by simp, fun n b => ?_, fun n k => by simpa using k, fun m => ?_⟩
  · rw [slots] at b
    split at b
    · simp [Slot.busy, SlotState.inProgress] at b
    · exact b
  refine m.release (fun o n k => ?_) (fun _ => ⟨by simp, by simp⟩) fun n b => ?_
  · cases o with
    | sweep i =>
      have keeps : p.scnt[i].slot = some n ∧ ∀ e ∈ l, e.1 = i → SectionRec.broken p.scnt[e.1] e.2 ≠ some n := by
        by_cases hi : ∃ e ∈ l, e.1 = i
        · obtain ⟨e, he, rfl⟩ := hi
          have k' : e.2.slot = some n := (named e he).symm.trans k
          have alt := hl e he
          rw [SectionRec.KeepsOrBreaks, k'] at alt
          obtain ⟨slot, none⟩ := alt.resolve_right fun a => nomatch a.1
          refine ⟨slot.symm, fun d hd eq => ?_⟩
          rw [List.inj_on_of_nodup_map nodup hd he eq, none]
          exact fun k => nomatch k
        · have hi : ∀ e ∈ l, e.1 ≠ i := fun e he eq => hi ⟨e, he, eq⟩
          exact ⟨(other i hi).symm.trans k, fun e he eq => absurd eq (hi e he)⟩
      refine ⟨keeps.1, .of_eq ?_⟩
      rw [slots, if_neg]
      rintro ⟨e, he, b, -⟩
      exact keeps.2 e he (Owner.sweep.inj (m.unique (broken m e n b) keeps.1)) b
    | restart h =>
      have k : p.holds (.restart h) n := by simpa [Part.holds] using k
      refine ⟨k, .of_eq ?_⟩
      rw [slots, if_neg]
      rintro ⟨e, he, b, -⟩
      cases m.unique (broken m e n b) k
    | test =>
      have k : p.holds .test n := by simpa [Part.holds] using k
      refine ⟨k, .of_eq ?_⟩
      rw [slots, if_neg]
      rintro ⟨e, he, b, -⟩
      cases m.unique (broken m e n b) k
  · rw [slots] at b
    split at b
    · simp [Slot.busy, SlotState.inProgress] at b
    · rename_i whole
      refine ⟨b, fun o k => ?_⟩
      cases o with
      | sweep i =>
        by_cases hi : ∃ e ∈ l, e.1 = i
        · obtain ⟨e, he, rfl⟩ := hi
          refine (named e he).trans ?_
          obtain ⟨slot, -⟩ | ⟨-, br⟩ := hl e he
          · exact slot.trans k
          · exact absurd ⟨e, he, br.trans k, m.works _ n k⟩ whole
        · exact (other i fun e he eq => hi ⟨e, he, eq⟩).trans k
      | restart h => simpa [Part.holds] using k
      | test => simpa [Part.holds] using k

theorem Part.frees_disturbAdjacent (p : Part) (now : Word) (h : HeadId) (c : Cause) (two : p.twoSections h) :
    p.Frees (p.disturbAdjacent now h c) := by
  refine p.frees_applySections now _ (by simpa [Function.comp_def] using p.adjacent_nodup h two) fun e he => ?_
  obtain ⟨i, -, rfl⟩ := List.mem_map.mp he
  exact SectionRec.keepsOrBreaks_disturbOrMark _ c

theorem Part.frees_passage (p : Part) (h : HeadId) (d : Direction) (two : p.twoSections h) : p.Frees (p.passage h d) := by
  have crossed (i : SectionId) (b : Bool) : p.scnt[i].KeepsOrBreaks (p.crossed i b).2 := by
    cases b
    · exact SectionRec.keepsOrBreaks_leave _ _
    · exact SectionRec.keepsOrBreaks_enter _
  refine p.frees_applySections _ (p.crossings h d) ?_ fun e he => ?_
  · rw [Part.crossings_fst]
    exact p.adjacent_nodup h two
  · obtain ⟨-, eq⟩ | ⟨-, eq⟩ := (p.mem_crossings h d e).mp he <;> rw [eq] <;> exact crossed _ _

end

end Sys2Proof.Machine

/-! SUPPORT. Every update of the blocks keeps slots and objects together: those that let go of a slot, those that give
one, a commit and the change to HALTED. -/

namespace Sys2Proof.Machine

open Sys2Proof

/-! ### Reports -/

section
variable {p q : Part}

/-- An object lets go of its slot, and its report ends the slot (R147, R148). -/
theorem Part.frees_of_report (o : Owner) (b : Option SlotId) (k : Byte) (object : Nat) (st : SlotState) (r : Result)
    (mode : q.topo.mode = p.topo.mode) (carried : ∀ n, p.holds o n ↔ b = some n)
    (works : ∀ x, p.worksFor x o → x.serves k object) (holds : ∀ o' n, q.holds o' n ↔ p.holds o' n ∧ o' ≠ o)
    (test : o ≠ .test → p.SameTest q) (final : st.inProgress = false)
    (slots : ∀ n : SlotId, q.slots[n] =
      if b = some n ∧ p.slots[n].serves k object then { p.slots[n] with state := st, result := some r }
      else p.slots[n]) : p.Frees q := by
  refine ⟨mode, fun n busy => ?_, fun n t => ((holds .test n).mp t).1, fun m => ?_⟩
  · rw [slots] at busy
    split at busy
    · simp [Slot.busy, final] at busy
    · exact busy
  · refine m.releaseOne o holds test (fun n c => ?_) fun n c => .of_eq ?_
    · rw [slots, if_pos ⟨(carried n).mp c, works _ (m.works o n c)⟩]
      exact final
    · rw [slots, if_neg fun x => c ((carried n).mpr x.1)]

/-- A section lets go of its slot. -/
theorem Part.holds_of_section (i : SectionId)
    (scnt : ∀ j : SectionId, q.scnt[j].slot = if i = j then none else p.scnt[j].slot) (supv : q.supv = p.supv)
    (gen : q.gen = p.gen) (o : Owner) (n : SlotId) : q.holds o n ↔ p.holds o n ∧ o ≠ .sweep i := by
  cases o with
  | sweep j =>
    simp only [Part.holds, scnt]
    by_cases e : i = j
    · simp [e]
    · simp [e, Ne.symm e]
  | restart h => simp [Part.holds, supv]
  | test => simp [Part.holds, gen]

/-- A head lets go of its slot. -/
theorem Part.holds_of_head (h : HeadId) (scnt : q.scnt = p.scnt)
    (supv : ∀ g : HeadId, q.supv[g].restartSlot = if h = g then none else p.supv[g].restartSlot)
    (gen : q.gen = p.gen) (o : Owner) (n : SlotId) : q.holds o n ↔ p.holds o n ∧ o ≠ .restart h := by
  cases o with
  | sweep i => simp [Part.holds, scnt]
  | restart g =>
    simp only [Part.holds, supv]
    by_cases e : h = g
    · simp [e]
    · simp [e, Ne.symm e]
  | test => simp [Part.holds, gen]

/-- The generator lets go of its slot. -/
theorem Part.holds_of_test (scnt : q.scnt = p.scnt) (supv : q.supv = p.supv) (gen : q.gen.slot = none) (o : Owner)
    (n : SlotId) : q.holds o n ↔ p.holds o n ∧ o ≠ .test := by
  cases o with
  | sweep i => simp [Part.holds, scnt]
  | restart g => simp [Part.holds, supv]
  | test => simp [Part.holds, gen]

/-- The slot of a test serves the head it targets. -/
theorem Part.serves_of_target (h : HeadId) (target : p.gen.target = some h) (x : Slot) (w : p.worksFor x .test) :
    x.serves 4#8 h.val := by
  obtain ⟨-, g, e, s⟩ := w
  rw [target] at e
  cases e
  exact s

/-- The generator that runs no test lets go of nothing. -/
theorem Part.frees_of_idle (idle : p.gen.state ≠ .running) (mode : q.topo.mode = p.topo.mode)
    (tables : q.scnt = p.scnt ∧ q.supv = p.supv ∧ q.slots = p.slots) (gen : q.gen.slot = none) : p.Frees q := by
  obtain ⟨scnt, supv, slots⟩ := tables
  have none (n : SlotId) : ¬ q.gen.slot = some n := fun t => by
    rw [gen] at t
    cases t
  refine ⟨mode, fun n b => slots ▸ b, fun n t => absurd t (none n), fun m => ?_⟩
  refine m.releaseOne .test (holds_of_test scnt supv gen) (fun k => absurd rfl k) (fun n k => ?_)
    fun n _ => .of_eq (by rw [slots])
  exact absurd (m.works .test n k).1 idle

/-- A free slot is set final. -/
theorem Part.frees_of_freeSlot (n : SlotId) (free : p.slots[n].busy = false) (y : Slot) (final : y.busy = false)
    (mode : q.topo.mode = p.topo.mode) (tables : q.scnt = p.scnt ∧ q.supv = p.supv ∧ q.gen = p.gen)
    (slots : ∀ m : SlotId, q.slots[m] = if n = m then y else p.slots[m]) : p.Frees q := by
  obtain ⟨scnt, supv, gen⟩ := tables
  have holds (o : Owner) (m : SlotId) : q.holds o m ↔ p.holds o m := by
    cases o with
    | sweep i => simp [Part.holds, scnt]
    | restart g => simp [Part.holds, supv]
    | test => simp [Part.holds, gen]
  have busy (m : SlotId) (b : q.slots[m].busy = true) : n ≠ m := fun e => by
    rw [slots, if_pos e, final] at b
    cases b
  refine ⟨mode, fun m b => ?_, fun m t => gen ▸ t, fun m => ?_⟩
  · have ne := busy m b
    rw [slots, if_neg ne] at b
    exact b
  · refine m.release (fun o k c => ?_) (fun _ => ⟨by rw [gen], by rw [gen]⟩) fun k b => ?_
    · have c := (holds o k).mp c
      refine ⟨c, .of_eq ?_⟩
      rw [slots, if_neg]
      rintro rfl
      have := m.busy c
      rw [free] at this
      cases this
    · have ne := busy k b
      rw [slots, if_neg ne] at b
      exact ⟨b, fun o => (holds o k).mpr⟩

end

section
variable (p : Part) (now : Word) (h : HeadId)

/-! ### HDEC -/

/-- An edge changes what TGEN has seen of its test, and nothing of the test (R20). -/
theorem Part.handleEdge_test (x : HeadDecoder) (y : System) (d : EdgeDir) :
    (p.handleEdge h x y d).gen.slot = p.gen.slot ∧ (p.handleEdge h x y d).gen.state = p.gen.state ∧
      (p.handleEdge h x y d).gen.target = p.gen.target := by
  have shadow : (p.shadowEdge h x y d).gen.slot = p.gen.slot ∧ (p.shadowEdge h x y d).gen.state = p.gen.state ∧
      (p.shadowEdge h x y d).gen.target = p.gen.target := by
    unfold Part.shadowEdge
    split
    · simp
    · split <;> simp
    · simp [Generator.shadow]
  unfold Part.handleEdge
  split
  · simp
  · exact shadow
  · split <;> simp
  · split
    · split <;> simp
    · simp
  · split <;> simp

theorem Part.frees_edgeAt (y : System) (d : EdgeDir) (period : Nat) : p.Frees (p.edgeAt h y d period) := by
  refine frees_of_tables ⟨by simp, by simp, by simp, by simp, ?_⟩
  unfold Part.edgeAt
  split
  · exact ⟨rfl, rfl, rfl⟩
  · unfold Part.takeEdge
    have k := Part.handleEdge_test (((p.setTbase (p.tbase.advanceTo period)).setHdec h
      ((p.setTbase (p.tbase.advanceTo period)).hdec[h].setSensor y
        (Sensor.edge d (p.setTbase (p.tbase.advanceTo period)).tbase.us))).copyEdge h y d) h
      (p.setTbase (p.tbase.advanceTo period)).hdec[h] y d
    simpa using k

/-! ### SCNT -/

theorem Part.frees_movement : p.Frees (p.movement h) := by
  refine frees_of_same (by simp) (fun i => ?_) (fun g => by simp) ⟨by simp, by simp, by simp⟩
    fun n => .of_eq (by simp)
  rw [Part.movement_get]
  split
  · unfold SectionRec.markMoved
    split <;> rfl
  · rfl

/-- The end of a settle wait reports the sweep that the section carries (R38, R59). -/
theorem Part.frees_waitEnds (i : SectionId) : p.Frees (p.waitEnds now i) := by
  rw [Part.waitEnds_eq]
  refine frees_of_report (.sweep i) p.scnt[i].slot 1#8 i.val .done .ok (by simp) (fun n => Iff.rfl) (fun _ w => w)
    (holds_of_section i (fun j => ?_) (by simp) (by simp)) (fun _ => ⟨by simp, by simp⟩) rfl fun n => ?_
  · rw [(Part.reportSlot_frame _ _ _ _ _ _ _).2.1, Part.updateSection_get]
    split <;> rfl
  · rw [Part.reportSlot_slots_get, Part.updateSection_slots]

theorem Part.frees_setRemaining (i : SectionId) (n : Nat) :
    p.Frees (p.setScnt i { p.scnt[i] with remaining := n }) := by
  refine frees_of_same rfl (fun j => ?_) (fun _ => rfl) ⟨rfl, rfl, rfl⟩ fun _ => .of_eq rfl
  rw [Part.setScnt_get]
  split
  · rename_i e
    rw [e]
  · rfl

theorem Part.frees_settleTick : p.Frees p.settleTick := by
  have section_ (q : Part) (v : Word) (i : SectionId) : q.Frees (q.settleSection v i) := by
    unfold Part.settleSection
    split_ifs
    · exact .refl q
    · exact q.frees_setRemaining i _
    · exact q.frees_waitEnds v i
    · exact q.frees_setRemaining i _
  obtain ⟨-, e⟩ | ⟨v, rest, -, e⟩ := p.settleTick_cases <;> rw [e]
  · exact .refl p
  · have taken : p.Frees (p.setTicks { p.ticks with scnt := rest }) := frees_of_tables (by simp)
    split
    · exact foldl_keeps p.Frees _ _ (fun q hq i _ => hq.trans (section_ q v i)) _ taken
    · exact taken

/-! ### SUPV -/

/-- A head is written, its restart slot stays. -/
theorem Part.frees_setSupv (v : HeadHealth) (e : v.restartSlot = p.supv[h].restartSlot) : p.Frees (p.setSupv h v) := by
  refine frees_of_same rfl (fun _ => rfl) (fun g => ?_) ⟨rfl, rfl, rfl⟩ fun _ => .of_eq rfl
  rw [Part.setSupv_get]
  split
  · rename_i eq
    rw [e, eq]
  · rfl

theorem Part.frees_record (d : Detail) : p.Frees (p.record now d) := frees_of_tables (by simp)

theorem Part.frees_scoreEvent (c : ScoreChange) (t : Trigger) (y : Option System) (two : ∀ g, p.twoSections g) :
    p.Frees (p.scoreEvent now h c t y) := by
  have k := p.scored_scoreEvent now h c t y
  generalize p.scoreEvent now h c t y = q at k ⊢
  have scored : p.Frees (p.setSupv h (p.supv[h].withScore (c.apply p.supv[h].score))) := p.frees_setSupv h _ rfl
  cases k with
  | discarded _ => exact .refl p
  | same _ _ _ => exact scored
  | changed _ _ _ _ => exact scored.trans (Part.frees_record _ now _)
  | failed _ _ _ =>
    have recorded := scored.trans (Part.frees_record _ now (.head h p.supv[h].health .failed (c.apply p.supv[h].score) t y))
    refine recorded.trans (Frees.trans ?_ (Part.frees_disturbAdjacent _ now h .headFailed ?_))
    · exact frees_of_tables (by simp)
    · rw [Part.twoSections_congr h (p := p) (by simp)]
      exact two h

/-- The end of a recovery reports the restart that the head carries (R84, R85). -/
theorem Part.frees_restartEnds (new : Health) (score : Nat) (d : Detail) (st : SlotState) (r : Result)
    (final : st.inProgress = false) :
    p.Frees (((p.setSupv h (p.supv[h].endRecovery new score)).record now d).reportRestart now h
      p.supv[h].restartSlot st r) := by
  rw [Part.reportRestart_eq]
  refine frees_of_report (.restart h) p.supv[h].restartSlot 3#8 h.val st r (by simp) (fun n => Iff.rfl) (fun _ w => w)
    (holds_of_head h (by simp) (fun g => ?_) (by simp)) (fun _ => ⟨by simp, by simp⟩) final fun n => ?_
  · rw [(Part.reportSlot_frame _ _ _ _ _ _ _).2.2.1, Part.record_supv, Part.setSupv_get]
    split <;> rfl
  · rw [Part.reportSlot_slots_get, Part.record_slots, Part.setSupv_slots]

theorem Part.frees_recoveryDone : p.Frees (p.recoveryDone now h) := by
  have ends := p.frees_restartEnds now h .healthy 0 (.head h .recovering .healthy 0 .recovered none) .done .ok rfl
  exact ends.trans (frees_of_tables (by simp [Part.recoveryDone]))

theorem Part.frees_quietCheck : p.Frees (p.quietCheck now h) := by
  simp only [Part.quietCheck]
  generalize (if quietNow p.hdec[h] p.supv[h] = true then p.supv[h].quiet + 1 else 0) = n
  have checked := p.frees_setSupv h { p.supv[h] with quiet := n, refTimes := some p.hdec[h].edgeTimes } rfl
  split
  · exact checked.trans (Part.frees_recoveryDone _ now h)
  · exact checked

theorem Part.frees_supervisionTick (a b : Amp) (two : ∀ g, p.twoSections g) : p.Frees (p.supervisionTick h a b) := by
  obtain e | e | ⟨v, -, -, -, e⟩ := p.supervisionTick_cases h a b <;> rw [e]
  · exact .refl p
  · exact frees_of_tables (by simp)
  · have scanned : p.Frees (p.scanned v h a b) ∧ (p.scanned v h a b).topo = p.topo :=
      Part.scanned_keeps (fun q => p.Frees q ∧ q.topo = p.topo) v h
        (fun q c t y hq => ⟨hq.1.trans (q.frees_scoreEvent v h c t y fun g =>
          (Part.twoSections_congr g hq.2).mpr (two g)), by simpa using hq.2⟩) p a b ⟨p.frees_setSupv h _ rfl, rfl⟩
    have supervised : p.Frees (p.superviseHead v h a b) := by
      rw [Part.superviseHead_eq]
      split
      · exact scanned.1.trans (Part.frees_quietCheck _ v h)
      · exact scanned.1
    exact supervised.trans (frees_of_tables (by simp))

theorem Part.frees_supvSlowTick : p.Frees p.supvSlowTick := by
  have head (q : Part) (v : Word) (h : HeadId) : q.Frees (q.slowHead v h) := by
    simp only [Part.slowHead]
    split_ifs
    · exact .refl q
    · exact q.frees_restartEnds v h .failed q.supv[h].score _ .failed .timeout rfl
    · exact q.frees_setSupv h _ rfl
  obtain e | ⟨v, -, e⟩ := p.supvSlowTick_cases <;> rw [e]
  · exact .refl p
  · have taken : p.Frees (p.setTicks { p.ticks with slowSupv := p.ticks.slowSupv.tail }) := frees_of_tables (by simp)
    split
    · exact foldl_keeps p.Frees _ _ (fun q hq h _ => hq.trans (head q v h)) _ taken
    · exact taken

/-! ### TGEN -/

/-- The end of a test reports the slot that the generator carries (R100, R101). -/
theorem Part.frees_testEnds {q : Part} (target : p.gen.target = some h) (st : SlotState) (r : Result)
    (final : st.inProgress = false) (mode : q.topo.mode = p.topo.mode) (scnt : q.scnt = p.scnt)
    (supv : q.supv = p.supv) (gen : q.gen.slot = none)
    (slots : ∀ n : SlotId, q.slots[n] =
      if p.gen.slot = some n ∧ p.slots[n].serves 4#8 h.val then { p.slots[n] with state := st, result := some r }
      else p.slots[n]) : p.Frees q :=
  frees_of_report .test p.gen.slot 4#8 h.val st r mode (fun _ => Iff.rfl) (fun x w => serves_of_target h target x w)
    (holds_of_test scnt supv gen) (fun k => absurd rfl k) final slots

theorem Part.frees_testPasses (target : p.gen.target = some h) : p.Frees (p.testPasses h) := by
  refine p.frees_testEnds h target .done .ok rfl (by simp) (by simp) (by simp)
    (by simp [Part.testPasses, Generator.toIdle, Generator.powerOn]) fun n => ?_
  simp only [Part.testPasses, Part.reportTest_eq, Part.sendSupv_slots]
  rw [Part.reportSlot_slots_get, Part.record_slots]
  rfl

theorem Part.frees_testFails (c : TestCheck) (target : p.gen.target = some h) : p.Frees (p.testFails h c) := by
  refine p.frees_testEnds h target .failed .testFail rfl (by simp) (by simp) (by simp)
    (by simp [Part.testFails, Generator.release, Generator.toIdle, Generator.powerOn]) fun n => ?_
  simp only [Part.testFails, Part.reportTest_eq, Part.sendSupv_slots]
  rw [Part.reportSlot_slots_get, Part.record_slots]
  rfl

/-- What an event makes of the sections goes by the sections and the topology alone. -/
theorem Part.disturbAdjacent_scnt_congr {p q : Part} (now now' : Word) (h : HeadId) (c : Cause) (topo : q.topo = p.topo)
    (scnt : q.scnt = p.scnt) (two : p.twoSections h) :
    (q.disturbAdjacent now' h c).scnt = (p.disturbAdjacent now h c).scnt := by
  apply Vector.ext
  intro i hi
  have two' := (Part.twoSections_congr h topo).mpr two
  show (q.disturbAdjacent now' h c).scnt[(⟨i, hi⟩ : SectionId)] = (p.disturbAdjacent now h c).scnt[(⟨i, hi⟩ : SectionId)]
  by_cases k : (⟨i, hi⟩ : SectionId) ∈ p.adjacent h
  · rw [q.disturbAdjacent_get now' h c two' _ (by rwa [Part.adjacent_congr h topo]),
      p.disturbAdjacent_get now h c two _ k, scnt]
  · rw [q.disturbAdjacent_get_other now' h c _ (by rwa [Part.adjacent_congr h topo]),
      p.disturbAdjacent_get_other now h c _ k, scnt]

/-- An abort disturbs the sections beside the head, then reports the test (R102). -/
theorem Part.frees_testAborts (target : p.gen.target = some h) (two : ∀ g, p.twoSections g) :
    p.Frees (p.testAborts h) := by
  refine (p.frees_disturbAdjacent p.tbase.ms h .testAbort (two h)).trans ?_
  simp only [Part.testAborts, Part.reportTest_eq]
  generalize er : ((p.setGen p.gen.toIdle).leaveTest h).record p.tbase.ms
    (.test h p.gen.dir .abort (recordStep p.gen.step) (some .unexpectedEdge)) = r
  have topo : r.topo = p.topo := by rw [← er]; simp
  have scnt : r.scnt = p.scnt := by rw [← er]; simp
  have slots : r.slots = p.slots := by rw [← er]; simp
  have slot : r.gen.slot = none := by rw [← er]; simp [Generator.toIdle, Generator.powerOn]
  have supv : r.supv = p.supv := by rw [← er]; simp
  refine Part.frees_testEnds _ h (by simpa using target) .failed .testAbort rfl (by simp [topo]) ?_ (by simp [supv])
    (by simpa using slot) fun n => ?_
  · rw [(Part.reportSlot_frame _ _ _ _ _ _ _).2.1]
    exact Part.disturbAdjacent_scnt_congr _ _ h _ topo scnt (two h)
  · rw [Part.reportSlot_slots_get, Part.disturbAdjacent_slots_get, Part.disturbAdjacent_slots_get,
      Part.slotDisturbed_congr h topo scnt slots, Part.disturbAdjacent_gen]

theorem Part.frees_releaseAborts (c : TestCheck) (idle : p.gen.state ≠ .running) : p.Frees (p.releaseAborts h c) :=
  frees_of_idle idle (by simp) (by simp) (by simp [Part.releaseAborts, Generator.toIdle, Generator.powerOn])

/-- A tick in hand, an expected edge and a step leave the test (R95 to R98). -/
theorem Part.frees_setGen (g : Generator) (e : g.slot = p.gen.slot ∧ g.state = p.gen.state ∧ g.target = p.gen.target) :
    p.Frees (p.setGen g) := frees_of_tables ⟨rfl, rfl, rfl, rfl, e⟩

theorem Part.frees_patternStart : p.Frees p.patternStart := by
  unfold Part.patternStart
  split
  · exact p.frees_setGen _ ⟨rfl, rfl, rfl⟩
  · exact .refl p

theorem Part.frees_tickWithinStep : p.Frees p.tickWithinStep := by
  obtain ⟨l, e⟩ := p.tickWithinStep_keeps
  rw [e]
  exact frees_of_tables ⟨rfl, rfl, rfl, rfl, rfl, rfl, rfl⟩

theorem Part.frees_followWindowClose : p.Frees p.followWindowClose := by
  unfold Part.followWindowClose
  split
  · exact p.frees_tickWithinStep
  · exact .refl p

theorem Part.frees_midStepSample : p.Frees p.midStepSample := by
  unfold Part.midStepSample
  split
  · exact p.frees_tickWithinStep
  · exact .refl p

theorem Part.frees_stepDeadline : p.Frees p.stepDeadline := by
  unfold Part.stepDeadline
  split
  · exact .refl p
  · rename_i h target
    split
    · have taken : p.Frees (p.setGen p.gen.tickTaken) := p.frees_setGen _ ⟨rfl, rfl, rfl⟩
      simp only [Part.stepEnds]
      split_ifs
      · exact taken.trans (Part.frees_testFails _ h _ target)
      · exact taken.trans (Part.frees_setGen _ _ ⟨rfl, rfl, rfl⟩)
      · exact taken.trans (Part.frees_testPasses _ h target)
      · exact taken.trans (Part.frees_testFails _ h _ target)
    · exact .refl p

theorem Part.frees_releaseTimeEnd : p.Frees p.releaseTimeEnd := by
  unfold Part.releaseTimeEnd
  split
  · exact .refl p
  · rename_i h _
    split
    · rename_i k
      have idle : p.gen.state ≠ .running := by rw [k.2.1]; decide
      unfold Part.releaseEnds
      split
      · exact p.frees_releaseAborts h _ idle
      · exact frees_of_idle idle rfl ⟨rfl, rfl, rfl⟩ rfl
    · exact .refl p

theorem Part.frees_takeAnswer : p.Frees p.takeAnswer := by
  unfold Part.takeAnswer
  split
  · exact .refl p
  · rename_i a rest _
    have taken : p.Frees (p.setSent { p.sent with answers := rest }) := frees_of_tables (by simp)
    unfold Part.judgeAnswer
    split
    · exact taken
    · rename_i h target
      split_ifs
      · exact taken
      · exact taken.trans (Part.frees_testFails _ h _ target)
      · exact taken

theorem Part.frees_takeCopy (two : ∀ g, p.twoSections g) : p.Frees p.takeCopy := by
  obtain ⟨-, e⟩ | ⟨c, rest, -, e⟩ := p.takeCopy_cases <;> rw [e]
  · exact .refl p
  · have taken : p.Frees (p.setSent { p.sent with copies := rest }) := frees_of_tables (by simp)
    have k := (p.setSent { p.sent with copies := rest }).judged_judgeCopy c
    generalize (p.setSent { p.sent with copies := rest }).judgeCopy c = q at k ⊢
    refine taken.trans ?_
    cases k with
    | ignored _ => exact .refl _
    | expected _ _ _ => exact Part.frees_setGen _ _ ⟨rfl, rfl, rfl⟩
    | aborts target _ _ => exact Part.frees_testAborts _ c.h target two
    | releasedA _ _ _ _ _ => exact Part.frees_setGen _ _ ⟨rfl, rfl, rfl⟩
    | releasedB _ _ _ _ _ => exact Part.frees_setGen _ _ ⟨rfl, rfl, rfl⟩
    | releaseAborts _ st _ => exact Part.frees_releaseAborts _ c.h _ (by rw [st]; decide)

theorem Generator.giveTick_test (g : Generator) (ms : Word) (t : Nat) :
    (g.giveTick ms t).slot = g.slot ∧ (g.giveTick ms t).state = g.state ∧ (g.giveTick ms t).target = g.target := by
  unfold Generator.giveTick
  split
  · exact ⟨rfl, rfl, rfl⟩
  · exact ⟨rfl, rfl, rfl⟩
  · split <;> exact ⟨rfl, rfl, rfl⟩

theorem Part.frees_msTick : p.Frees p.msTick := by
  have examined : p.Frees p.examineAll := frees_of_tables (by simp)
  have lowered (q : Part) : q.Frees q.lowerPending := by
    unfold Part.lowerPending
    split
    · exact q.frees_setGen _ ⟨rfl, rfl, rfl⟩
    · exact .refl q
  have pending (q : Part) : q.Frees q.takePendingTick := by
    unfold Part.takePendingTick
    split
    · exact (lowered q).trans (Part.frees_releaseTimeEnd _)
    · exact ((q.frees_patternStart.trans (Part.frees_midStepSample _)).trans (Part.frees_followWindowClose _)).trans
        (Part.frees_stepDeadline _)
  have given (q : Part) : q.Frees q.giveMsTick :=
    frees_of_tables ⟨rfl, rfl, rfl, rfl, Generator.giveTick_test _ _ _⟩
  exact (examined.trans (pending _)).trans (given _)

end

/-! ### REQE -/

section
variable {p q : Part}

theorem Part.Matched.frees (m : p.Matched) (h : p.Frees q) : q.Matched := h.matched m

theorem Part.frees_setFinal (p : Part) (n : SlotId) (w : Word) (st : SlotState) (r : Option Result)
    (free : p.slots[n].busy = false) (final : st.inProgress = false) :
    p.Frees (p.setSlot n (p.slots[n].request_ w st r)) :=
  frees_of_freeSlot n free (p.slots[n].request_ w st r) final rfl ⟨rfl, rfl, rfl⟩ (p.setSlot_get n · _)

theorem Part.frees_refuse (p : Part) (n : SlotId) (w : Word) (r : Result) (free : p.slots[n].busy = false) :
    p.Frees (p.refuse n w r) := (p.frees_setFinal n w .refused _ free rfl).trans (Part.frees_record _ _ _)

theorem Part.frees_doneOk (p : Part) (n : SlotId) (w : Word) (free : p.slots[n].busy = false) :
    p.Frees (p.doneOk n w) := (p.frees_setFinal n w .done _ free rfl).trans (Part.frees_record _ _ _)

/-- A slot in progress that names the target of a screened request is another, and there is none (R144). -/
theorem Part.Screened.not_serves {n : SlotId} {w : Word} (k : p.Screened n w) (m : SlotId) (kind : Byte) (object : Nat)
    (same : objectOfKind kind.toNat = objectOfKind (cmdKind w).toNat) (target : (cmdTarget w).toNat = object) :
    ¬ p.slots[m].serves kind object := by
  rintro ⟨busy, eqk, eqt⟩
  have ne : m ≠ n := fun e => by
    rw [e, k.free] at busy
    cases busy
  have busyTarget : p.targetBusy n w = true := by
    simp only [Part.targetBusy, List.any_eq_true, Bool.and_eq_true, decide_eq_true_eq, Slot.names]
    exact ⟨m, List.mem_finRange m, ne, ⟨busy, by rw [eqk, same]⟩, BitVec.eq_of_toNat_eq (eqt.trans target.symm)⟩
  rw [k.alone] at busyTarget
  cases busyTarget

theorem targetSection_eq_some (t : Byte) (i : SectionId) (e : targetSection t = some i) : t.toNat = i.val := by
  unfold targetSection at e
  split at e <;> cases e
  rfl

theorem targetHead_eq_some (t : Byte) (h : HeadId) (e : targetHead t = some h) : t.toNat = h.val := by
  unfold targetHead at e
  split at e <;> cases e
  rfl

/-- An accepted sweep gives its slot to the section (R57). -/
theorem Part.Matched.acceptSweep (m : p.Matched) {n : SlotId} {w : Word} {i : SectionId} (k : p.Screened n w)
    (kind : cmdKind w = 1#8) (target : targetSection (cmdTarget w) = some i) :
    ((p.acceptSweep n i).startSlot n w .waiting).Matched := by
  have object := targetSection_eq_some _ _ target
  have none (n' : SlotId) : ¬ p.holds (.sweep i) n' := fun h =>
    k.not_serves n' 1#8 i.val (by rw [kind]) object (m.works _ n' h)
  have scnt (j : SectionId) : ((p.acceptSweep n i).startSlot n w .waiting).scnt[j].slot =
      if i = j then some n else p.scnt[j].slot := by
    rw [(Part.startSlot_frame _ _ _ _).2.1, Part.acceptSweep, Part.updateSection_get]
    split <;> rfl
  have slots (n' : SlotId) : ((p.acceptSweep n i).startSlot n w .waiting).slots[n'] =
      if n = n' then p.slots[n].request_ w .waiting .none else p.slots[n'] := by
    rw [Part.startSlot, Part.setSlot_get, (Part.acceptSweep_frame _ _ _).2.2.2.1]
  refine m.assign (.sweep i) n k.free (fun o n' => ?_) none (fun _ => ⟨by simp, by simp⟩) ?_ fun n' ne => .of_eq ?_
  · cases o with
    | sweep j =>
      simp only [Part.holds, scnt]
      by_cases e : i = j
      · simp [e, eq_comm]
      · simp [e, Ne.symm e]
    | restart h => simp [Part.holds]
    | test => simp [Part.holds]
  · show Slot.serves _ 1#8 i.val
    rw [slots, if_pos rfl]
    exact ⟨rfl, kind, object⟩
  · rw [slots, if_neg ne.symm]

/-- An accepted restart gives its slot to the head (R82). -/
theorem Part.Matched.acceptRestart (m : p.Matched) {n : SlotId} {w : Word} {h : HeadId} (k : p.Screened n w)
    (kind : cmdKind w = 3#8) (target : targetHead (cmdTarget w) = some h) :
    ((p.acceptRestart n h).startSlot n w .waiting).Matched := by
  have object := targetHead_eq_some _ _ target
  have none (n' : SlotId) : ¬ p.holds (.restart h) n' := fun c =>
    k.not_serves n' 3#8 h.val (by rw [kind]) object (m.works _ n' c)
  have supv (g : HeadId) : ((p.acceptRestart n h).startSlot n w .waiting).supv[g].restartSlot =
      if h = g then some n else p.supv[g].restartSlot := by
    rw [(Part.startSlot_frame _ _ _ _).2.2.1, Part.acceptRestart, Part.setSupv_get]
    split <;> rfl
  have slots (n' : SlotId) : ((p.acceptRestart n h).startSlot n w .waiting).slots[n'] =
      if n = n' then p.slots[n].request_ w .waiting .none else p.slots[n'] := by
    rw [Part.startSlot, Part.setSlot_get]
    rfl
  refine m.assign (.restart h) n k.free (fun o n' => ?_) none (fun _ => ⟨rfl, rfl⟩) ?_ fun n' ne => .of_eq ?_
  · cases o with
    | sweep i => simp [Part.holds]
    | restart g =>
      simp only [Part.holds, supv]
      by_cases e : h = g
      · simp [e, eq_comm]
      · simp [e, Ne.symm e]
    | test => simp [Part.holds]
  · show Slot.serves _ 3#8 h.val
    rw [slots, if_pos rfl]
    exact ⟨rfl, kind, object⟩
  · rw [slots, if_neg ne.symm]

/-- An accepted test gives its slot to the generator (R94). -/
theorem Part.Matched.acceptTest (m : p.Matched) {n : SlotId} {w : Word} {h : HeadId} (k : p.Screened n w)
    (kind : cmdKind w = 4#8) (target : targetHead (cmdTarget w) = some h) (idle : p.gen.state = .idle) :
    ((p.acceptTest n h).startSlot n w .active).Matched := by
  have object := targetHead_eq_some _ _ target
  have none (n' : SlotId) : ¬ p.holds .test n' := fun c => by
    have := (m.works _ n' c).1
    rw [idle] at this
    cases this
  have slots (n' : SlotId) : ((p.acceptTest n h).startSlot n w .active).slots[n'] =
      if n = n' then p.slots[n].request_ w .active .none else p.slots[n'] := by
    rw [Part.startSlot, Part.setSlot_get]
    rfl
  have gen : ((p.acceptTest n h).startSlot n w .active).gen = p.gen.accept n h (paramDirection p.slots[n].param) := rfl
  refine m.assign .test n k.free (fun o n' => ?_) none (fun c => absurd rfl c) ?_ fun n' ne => .of_eq ?_
  · cases o with
    | sweep i => simp [Part.holds]
    | restart g => simp [Part.holds]
    | test =>
      simp only [Part.holds, gen, Generator.accept, Option.some.injEq, ne_eq, not_true_eq_false, and_false, true_and,
        false_or]
      exact eq_comm
  · refine ⟨rfl, h, rfl, ?_⟩
    rw [slots, if_pos rfl]
    exact ⟨rfl, kind, object⟩
  · rw [slots, if_neg ne.symm]

/-- The one number that passes a test is found. -/
theorem find?_finRange_of_unique {k : Nat} (P : Fin k → Bool) (i : Fin k) (hi : P i = true)
    (only : ∀ j, P j = true → j = i) : (List.finRange k).find? P = some i :=
  find?_finRange_eq_some P i hi fun j lt => by
    by_contra c
    exact absurd (only j (by simpa using c)) (Fin.ne_of_lt lt)

/-- A cancel finds the section that carries the slot (R65). -/
theorem Part.cancelSweep_eq (p : Part) (n : SlotId) (i : SectionId) (held : p.scnt[i].slot = some n)
    (only : ∀ j : SectionId, p.scnt[j].slot = some n → j = i) :
    p.cancelSweep n = p.updateSection p.tbase.ms i (p.scnt[i].disturb .resetCancelled (p.cancelMoved i)) := by
  unfold Part.cancelSweep allSections
  rw [find?_finRange_of_unique _ i (by simpa using held) fun j c => only j (by simpa using c)]

/-- A cancel finds the head that carries the slot (R86). -/
theorem Part.cancelRestart_eq (p : Part) (n : SlotId) (h : HeadId) (held : p.supv[h].restartSlot = some n)
    (only : ∀ g : HeadId, p.supv[g].restartSlot = some n → g = h) :
    p.cancelRestart n =
      (p.setSupv h (p.supv[h].endRecovery .failed p.supv[h].score)).record p.tbase.ms
        (.head h .recovering .failed p.supv[h].score .restartCancelled none) := by
  unfold Part.cancelRestart allHeads
  rw [find?_finRange_of_unique _ h (by simpa using held) fun j c => only j (by simpa using c)]

/-- A cancel of a running test ends the test of the targeted head (R103). -/
theorem Part.cancelTest_eq (p : Part) (h : HeadId) (target : p.gen.target = some h) (run : p.gen.state = .running) :
    p.cancelTest =
      ((p.setGen (p.gen.release p.hdec[h])).leaveTest h).record p.tbase.ms
        (.test h p.gen.dir .cancel (recordStep p.gen.step) none) := by
  simp only [Part.cancelTest, target, run, if_true]

/-- The object that carries the slot lets go of it at a cancel (R146). -/
theorem Part.Matched.cancel_holds (m : p.Matched) (n : SlotId) (o : Owner) (held : p.holds o n) (o' : Owner)
    (k : SlotId) : (p.cancelWork n).holds o' k ↔ p.holds o' k ∧ o' ≠ o := by
  have works := m.works o n held
  unfold Part.cancelWork
  cases o with
  | sweep i =>
    obtain ⟨-, kind, -⟩ := works
    rw [if_pos kind, p.cancelSweep_eq n i held fun j c => Owner.sweep.inj (m.unique (o := .sweep j) c held)]
    refine holds_of_section i (fun j => ?_) (by simp) (by simp) o' k
    rw [Part.updateSection_get]
    split <;> rfl
  | restart h =>
    obtain ⟨-, kind, -⟩ := works
    rw [if_neg (by rw [kind]; decide), if_pos kind,
      p.cancelRestart_eq n h held fun g c => Owner.restart.inj (m.unique (o := .restart g) c held)]
    refine holds_of_head h (by simp) (fun g => ?_) (by simp) o' k
    rw [Part.record_supv, Part.setSupv_get]
    split <;> rfl
  | test =>
    obtain ⟨run, h, target, -, kind, -⟩ := works
    rw [if_neg (by rw [kind]; decide), if_neg (by rw [kind]; decide), p.cancelTest_eq h target run]
    exact holds_of_test (by simp) (by simp) (by simp [Generator.release, Generator.toIdle, Generator.powerOn]) o' k

theorem Part.Matched.cancel_sameTest (m : p.Matched) (n : SlotId) (o : Owner) (held : p.holds o n) (no : o ≠ .test) :
    p.SameTest (p.cancelWork n) := by
  have works := m.works o n held
  unfold Part.cancelWork
  cases o with
  | sweep i =>
    obtain ⟨-, kind, -⟩ := works
    rw [if_pos kind]
    exact ⟨by simp, by simp⟩
  | restart h =>
    obtain ⟨-, kind, -⟩ := works
    rw [if_neg (by rw [kind]; decide), if_pos kind]
    exact ⟨by simp, by simp⟩
  | test => exact absurd rfl no

/-- A cancel ends the slot that it names (R146). -/
theorem Part.Matched.cancelWork (m : p.Matched) (n : SlotId) (busy : p.slots[n].busy = true) (r : Result) :
    ((p.cancelWork n).finishSlot p.tbase.ms n .cancelled r).Matched := by
  have slots (k : SlotId) : ((p.cancelWork n).finishSlot p.tbase.ms n .cancelled r).slots[k] =
      if n = k then { p.slots[n] with state := .cancelled, result := some r } else p.slots[k] := by
    rw [Part.finishSlot, Part.record_slots, Part.setSlot_get, (Part.cancelWork_frame _ _).1]
  obtain ⟨o, held⟩ := m.held n busy
  have only (k : SlotId) (c : p.holds o k) : n = k := by
    cases o with
    | sweep i => exact Option.some.inj (held.symm.trans c)
    | restart h => exact Option.some.inj (held.symm.trans c)
    | test => exact Option.some.inj (held.symm.trans c)
  have same (o' : Owner) (k : SlotId) :
      ((p.cancelWork n).finishSlot p.tbase.ms n .cancelled r).holds o' k ↔ (p.cancelWork n).holds o' k := by
    cases o' with
    | sweep i => simp [Part.holds]
    | restart h => simp [Part.holds]
    | test => simp [Part.holds]
  refine m.releaseOne o (fun o' k => (same o' k).trans (m.cancel_holds n o held o' k)) (fun no => ?_) (fun k c => ?_)
    fun k c => .of_eq ?_
  · have k := m.cancel_sameTest n o held no
    exact ⟨by simpa using k.1, by simpa using k.2⟩
  · rw [slots, if_pos (only k c)]
    rfl
  · rw [slots, if_neg]
    rintro rfl
    exact c held

theorem SlotsFit.of_matched (run : q.topo.mode = .running) (m : q.Matched) : SlotsFit q :=
  ⟨fun no => absurd run no, fun _ => m⟩

theorem SlotsFit.request (hp : SlotsFit p) (n : SlotId) (w : Word) : SlotsFit (p.request n w) := by
  have k := p.requested_request n w
  generalize p.request n w = q at k ⊢
  cases k with
  | ignored => exact hp
  | slotBusy _ => exact hp.frees (p.frees_record _ _)
  | refused free r => exact hp.frees (p.frees_refuse n w r free)
  | sweep i k kind target ok =>
    have run := (p.running_iff).mp k.run
    exact .of_matched (by simpa using run) ((hp.on run).acceptSweep k kind target)
  | prepared i k kind target ok =>
    have accepted : p.Frees (p.acceptPrepared i) := by
      refine Part.frees_of_same (by simp) (fun j => ?_) (fun h => by simp) ⟨by simp, by simp, by simp⟩
        fun m => .of_eq (by simp)
      rw [Part.acceptPrepared, Part.updateSection_get]
      split
      · rename_i e
        rw [← e]
        rfl
      · rfl
    exact hp.frees (accepted.trans (Part.frees_doneOk _ n w (by simpa using k.free)))
  | restart h k kind target ok =>
    have run := (p.running_iff).mp k.run
    exact .of_matched run ((hp.on run).acceptRestart k kind target)
  | test h k kind target ok =>
    have run := (p.running_iff).mp k.run
    obtain ⟨-, -, -, -, -, idle, -⟩ := (p.testRefusal_eq_none h).mp ok
    exact .of_matched run ((hp.on run).acceptTest k kind target idle)
  | cancel m k kind target busy =>
    have run := (p.running_iff).mp k.run
    have cancelled := (hp.on run).cancelWork m busy .cancelled
    have ne : m ≠ n := fun e => by
      rw [e, k.free] at busy
      cases busy
    refine .of_matched (by simpa using run) (cancelled.frees (Part.frees_doneOk _ n w ?_))
    rw [Part.finishSlot, Part.record_slots, Part.setSlot_get, if_neg ne, (Part.cancelWork_frame _ _).1]
    exact k.free

/-! ### TOPO -/

theorem SectionRec.atCommit_slot (c : Params) (i : SectionId) : (SectionRec.atCommit c i).slot = none := by
  unfold SectionRec.atCommit
  split <;> rfl

theorem HeadHealth.atCommit_restartSlot (u : Bool) : (HeadHealth.atCommit u).restartSlot = none := by
  cases u <;> rfl

/-- No slot is in progress at a commit, and no object carries one (R117). -/
theorem SlotsFit.acceptCommit (hp : SlotsFit p) (unc : p.topo.mode = .unconfigured) (check : BitVec 16) :
    SlotsFit (p.acceptCommit check) := by
  obtain ⟨busy, slot⟩ := hp.off (by rw [unc]; decide)
  refine .of_matched rfl ⟨fun o n k => ?_, fun n b => ?_⟩
  · cases o with
    | sweep i =>
      rw [Part.holds, Part.acceptCommit_scnt_get, SectionRec.atCommit_slot] at k
      cases k
    | restart h =>
      rw [Part.holds, Part.acceptCommit_supv_get, HeadHealth.atCommit_restartSlot] at k
      cases k
    | test =>
      rw [Part.holds, (Part.acceptCommit_frame _ _).1, slot] at k
      cases k
  · rw [(Part.acceptCommit_frame _ _).2.1, busy] at b
    cases b

theorem SlotsFit.topologyWrite (hp : SlotsFit p) (unc : p.topo.mode = .unconfigured) (aps : BitVec 4) (i : Place)
    (l : Lanes) (w : Word) : SlotsFit (p.topologyWrite aps i l w) := by
  have merged : SlotsFit (p.merged i l w) := hp.frees (Part.frees_of_tables ⟨rfl, rfl, rfl, rfl, rfl, rfl, rfl⟩)
  obtain e | ⟨-, -, e⟩ | ⟨-, -, e⟩ := p.topologyWrite_cases aps i l w <;> rw [e]
  · exact merged
  · exact merged.acceptCommit unc _
  · exact merged.frees (Part.frees_of_tables ⟨rfl, rfl, rfl, rfl, rfl, rfl, rfl⟩)

theorem Slot.busy_atHalt (x : Slot) : x.atHalt.busy = false := by
  unfold Slot.atHalt
  split
  · rfl
  · exact Bool.eq_false_of_not_eq_true ‹_›

theorem SlotsFit.topoSlowTick (hp : SlotsFit p) : SlotsFit p.topoSlowTick := by
  obtain ⟨-, e⟩ | ⟨v, rest, -, e⟩ := p.topoSlowTick_cases <;> rw [e]
  · exact hp
  · split
    · refine ⟨fun _ => ⟨fun n => ?_, rfl⟩, fun m => (nomatch m)⟩
      rw [Part.halt_slots_get]
      exact Slot.busy_atHalt _
    · exact hp.frees (Part.frees_of_tables ⟨rfl, rfl, rfl, rfl, rfl, rfl, rfl⟩)

/-- Every update of the blocks keeps slots and objects together, with two sides of a head naming two sections. -/
theorem SlotsFit.update {aps : BitVec 4} (hp : SlotsFit p) (two : ∀ h, p.twoSections h) (u : p.Update aps q) :
    SlotsFit q := by
  have event (m : ToScnt) : p.Frees (p.tookScnt m) := Part.frees_of_tables (by simp)
  cases u with
  | edge h y d period => exact hp.frees (p.frees_edgeAt h y d period)
  | passage m h d _ => exact hp.frees ((event m).trans (Part.frees_passage _ h d (two h)))
  | disturbance m h c _ => exact hp.frees ((event m).trans (Part.frees_disturbAdjacent _ _ h c (two h)))
  | movement m h _ => exact hp.frees ((event m).trans (Part.frees_movement _ h))
  | settleTick => exact hp.frees p.frees_settleTick
  | supervisionTick h a b => exact hp.frees (p.frees_supervisionTick h a b two)
  | slowTick => exact hp.frees p.frees_supvSlowTick
  | staleTestReport m => exact hp.frees (Part.frees_of_tables ⟨rfl, rfl, rfl, rfl, rfl, rfl, rfl⟩)
  | testReportDropped m => exact hp.frees (Part.frees_of_tables ⟨rfl, rfl, rfl, rfl, rfl, rfl, rfl⟩)
  | report m h c t _ _ =>
    have taken : p.Frees (p.tookSupv m) := Part.frees_of_tables (by simp)
    exact hp.frees (taken.trans (Part.frees_scoreEvent _ _ h c t none two))
  | testReport m h c t _ _ =>
    have taken : p.Frees (p.tookSupv m).reportTaken := Part.frees_of_tables ⟨rfl, rfl, rfl, rfl, rfl, rfl, rfl⟩
    exact hp.frees (taken.trans (Part.frees_scoreEvent _ _ h c t none two))
  | patternStart => exact hp.frees p.frees_patternStart
  | followWindowClose => exact hp.frees p.frees_followWindowClose
  | stepDeadline => exact hp.frees p.frees_stepDeadline
  | midStepSample => exact hp.frees p.frees_midStepSample
  | answer => exact hp.frees p.frees_takeAnswer
  | copy => exact hp.frees (p.frees_takeCopy two)
  | releaseTimeEnd => exact hp.frees p.frees_releaseTimeEnd
  | recheck => exact hp.topoSlowTick
  | corruption i b =>
    unfold Part.corruptShadow
    split
    · exact hp.frees (Part.frees_of_tables ⟨rfl, rfl, rfl, rfl, rfl, rfl, rfl⟩)
    · exact hp
  | request n w => exact hp.request n w
  | paramWrite n l w =>
    refine hp.frees (Part.frees_of_same rfl (fun _ => rfl) (fun _ => rfl) ⟨rfl, rfl, rfl⟩ fun m => ?_)
    rw [Part.paramWrite, Part.setSlot_get]
    split
    · rename_i e
      rw [← e]
      exact ⟨rfl, rfl, rfl⟩
    · exact .of_eq rfl
  | topologyWrite i l w unc => exact hp.topologyWrite unc aps i l w
  | msTick => exact hp.frees p.frees_msTick
  | _ => exact hp.frees (Part.frees_of_tables (by simp))

end

/-- Settles O57: the updates let go of a slot as they report it, or give a free slot to an object that carries none. -/
theorem slotsInvariant : Obligations.SlotsInvariant := by
  rintro s t ⟨-, -, topo⟩ hs e up
  rw [topologyOk_iff] at topo
  rw [slotsOk_iff] at hs ⊢
  refine (step_keeps_up (fun p => TopologyFits p ∧ SlotsFit p)
    (fun _ _ _ hp u => ⟨hp.1.update u, hp.2.update hp.1.sides u⟩)
    (fun p j hp => ⟨hp.1.congr ⟨rfl, rfl, Iff.rfl, fun _ => rfl⟩,
      hp.2.frees (Part.frees_of_tables ⟨rfl, rfl, rfl, rfl, rfl, rfl, rfl⟩)⟩)
    (fun la lb n => ⟨.powerOn la lb n, ⟨fun _ => ⟨fun m => ?_, rfl⟩, fun m => (nomatch m)⟩⟩) s t
    (fun p => ⟨topo, hs p⟩) e up).2
  rw [Part.powerOn_slots_get]
  rfl

end Sys2Proof.Machine

/-! SUPPORT. An edge at a head: what the level update does, one equation for each phase an edge can meet, and the table
of R7 as equations for a crossing. -/

namespace Sys2Proof.Machine

open Sys2Proof

/-! ### Time and level -/

theorem Timebase.advanceTo_self (t : Timebase) : t.advanceTo t.period = t := by
  unfold Timebase.advanceTo
  split <;> simp

/-- An edge later in the same millisecond (R165). -/
theorem Timebase.advanceTo_of_le {t : Timebase} {period : Nat} (le : t.period ≤ period) (lt : period < 8000) :
    t.advanceTo period =
      { us := t.us + BitVec.ofNat 32 (period / 8 - t.period / 8), ms := t.ms, period := period } :=
  if_pos ⟨le, lt⟩

theorem Sensor.within_eq (x : Sensor) (stamp : Word) (limit : Nat) :
    x.within stamp limit = decide (x.lessThan stamp limit) := by
  simp [Sensor.within]

/-- The head's record with the level, the stamp and the age of an edge (R1, R2). -/
def HeadDecoder.atEdge (x : HeadDecoder) (y : System) (d : EdgeDir) (us : Word) : HeadDecoder :=
  x.setSensor y (Sensor.edge d us)

theorem HeadDecoder.setSensor_keeps (x : HeadDecoder) (y : System) (v : Sensor) :
    (x.setSensor y v).phase = x.phase ∧ (x.setSensor y v).suspect = x.suspect ∧
      (x.setSensor y v).dwellStart = x.dwellStart ∧ (x.setSensor y v).standing = x.standing ∧
      (x.setSensor y v).shadowPhase = x.shadowPhase ∧ (x.setSensor y v).shadowSuspect = x.shadowSuspect := by
  cases y <;> exact ⟨rfl, rfl, rfl, rfl, rfl, rfl⟩

@[simp] theorem HeadDecoder.atEdge_keeps (x : HeadDecoder) (y : System) (d : EdgeDir) (us : Word) :
    (x.atEdge y d us).phase = x.phase ∧ (x.atEdge y d us).suspect = x.suspect ∧
      (x.atEdge y d us).dwellStart = x.dwellStart ∧ (x.atEdge y d us).standing = x.standing ∧
      (x.atEdge y d us).shadowPhase = x.shadowPhase ∧ (x.atEdge y d us).shadowSuspect = x.shadowSuspect :=
  x.setSensor_keeps y _

theorem HeadDecoder.atEdge_sensor (x : HeadDecoder) (y : System) (d : EdgeDir) (us : Word) :
    (x.atEdge y d us).sensor y = { damped := d.damped, edgeTime := us, edgeAge := 0 } := by
  cases y <;> rfl

theorem HeadDecoder.atEdge_other (x : HeadDecoder) (y : System) (d : EdgeDir) (us : Word) :
    (x.atEdge y d us).sensor y.other = x.sensor y.other := by
  cases y <;> rfl

/-- The blocks with the level of an edge taken and the edge copied to TGEN where it is to be (R1, R2, R20, R22). -/
def Part.atEdge (p : Part) (h : HeadId) (y : System) (d : EdgeDir) : Part :=
  (p.setHdec h (p.hdec[h].atEdge y d p.tbase.us)).copyEdge h y d

theorem Part.takeEdge_eq (p : Part) (h : HeadId) (y : System) (d : EdgeDir) :
    p.takeEdge h y d = (p.atEdge h y d).handleEdge h p.hdec[h] y d := rfl

/-- The copies that an edge gives TGEN: one of a head in TEST or under a release allowance (R20, R22). -/
def Part.edgeCopies (p : Part) (h : HeadId) (y : System) (d : EdgeDir) : List EdgeCopy :=
  if p.hdec[h].phase = .test ∨ (p.gen.state = .releasing ∧ p.gen.target = some h) then [{ h := h, y := y, d := d }]
  else []

theorem Part.edgeCopies_of_ne_test (p : Part) (h : HeadId) (y : System) (d : EdgeDir) (nt : p.hdec[h].phase ≠ .test) :
    p.edgeCopies h y d =
      if p.gen.state = .releasing ∧ p.gen.target = some h then [{ h := h, y := y, d := d }] else [] := by
  simp only [Part.edgeCopies, nt, false_or]

theorem Part.copyEdge_sent (p : Part) (h : HeadId) (y : System) (d : EdgeDir) :
    (p.copyEdge h y d).sent = { p.sent with copies := p.sent.copies ++ p.edgeCopies h y d } := by
  unfold Part.copyEdge Part.edgeCopies Part.allowance
  split_ifs with copied k k
  · rfl
  · simp_all
  · simp_all
  · simp

section
variable (p : Part) (h : HeadId) (y : System) (d : EdgeDir)

@[simp] theorem Part.atEdge_frame :
    (p.atEdge h y d).scnt = p.scnt ∧ (p.atEdge h y d).supv = p.supv ∧ (p.atEdge h y d).gen = p.gen ∧
      (p.atEdge h y d).slots = p.slots ∧ (p.atEdge h y d).jrnl = p.jrnl ∧ (p.atEdge h y d).topo = p.topo ∧
      (p.atEdge h y d).tbase = p.tbase ∧ (p.atEdge h y d).ticks = p.ticks := by
  simp [Part.atEdge]

theorem Part.atEdge_hdec_get (g : HeadId) :
    (p.atEdge h y d).hdec[g] = if h = g then p.hdec[h].atEdge y d p.tbase.us else p.hdec[g] := by
  rw [Part.atEdge, (Part.copyEdge_frame _ _ _ _).1, Part.setHdec_get]

theorem Part.atEdge_sent :
    (p.atEdge h y d).sent = { p.sent with copies := p.sent.copies ++ p.edgeCopies h y d } := by
  have phase : (p.setHdec h (p.hdec[h].atEdge y d p.tbase.us)).hdec[h].phase = p.hdec[h].phase := by
    rw [Part.setHdec_get, if_pos rfl, (HeadDecoder.atEdge_keeps _ _ _ _).1]
  rw [Part.atEdge, Part.copyEdge_sent]
  simp only [Part.edgeCopies, phase, Part.setHdec_gen, Part.setHdec_sent]

/-- The level does not decide whether a head is decoding (R5). -/
theorem Part.atEdge_decoding : (p.atEdge h y d).decoding h = p.decoding h := by
  have phase : (p.atEdge h y d).hdec[h].phase = p.hdec[h].phase := by
    rw [Part.atEdge_hdec_get, if_pos rfl, (HeadDecoder.atEdge_keeps _ _ _ _).1]
  simp only [Part.decoding, Part.running, Part.used, Part.headEntry, phase, Part.atEdge_frame]

/-- An edge now is taken when it changes the level (R1). -/
theorem Part.edgeAt_now (change : (p.hdec[h].sensor y).damped ≠ d.damped) :
    p.edgeAt h y d p.tbase.period = p.takeEdge h y d := by
  have same : p.setTbase (p.tbase.advanceTo p.tbase.period) = p := by rw [Timebase.advanceTo_self]; rfl
  rw [Part.edgeAt, if_neg change, same]

theorem Part.edgeAt_of_same (period : Nat) (same : (p.hdec[h].sensor y).damped = d.damped) :
    p.edgeAt h y d period = p := if_pos same

end

/-! ### The phases an edge meets -/

theorem Part.decoding_iff (p : Part) (h : HeadId) :
    p.decoding h = true ↔
      p.running = true ∧ p.used h = true ∧ p.supv[h].health ≠ .failed ∧ p.supv[h].health ≠ .recovering ∧
        p.hdec[h].phase ≠ .test ∧ p.hdec[h].phase ≠ .off := by
  simp [Part.decoding, and_assoc]

section
variable {p : Part} {h : HeadId} {x : HeadDecoder} {y : System} {d : EdgeDir}

theorem Part.handleEdge_off (ph : x.phase = .off) : p.handleEdge h x y d = p.offEdge h := by
  simp only [Part.handleEdge, ph]

theorem Part.handleEdge_shadow (ph : x.phase = .test) : p.handleEdge h x y d = p.shadowEdge h x y d := by
  simp only [Part.handleEdge, ph]

theorem Part.handleEdge_unsettled (ph : x.phase = .unsettled) :
    p.handleEdge h x y d = if p.decoding h then p.unsettledEdge h else p := by
  simp only [Part.handleEdge, ph]

theorem Part.handleEdge_rising (ph : x.phase = .idle) :
    p.handleEdge h x y .rising = if p.decoding h then p.leaveIdle h y else p := by
  simp only [Part.handleEdge, ph]

theorem Part.handleEdge_falling (ph : x.phase = .idle) : p.handleEdge h x y .falling = p := by
  simp only [Part.handleEdge, ph]

theorem Part.handleEdge_traverse (ph : x.phase.isTraverse = true) :
    p.handleEdge h x y d = if p.decoding h then p.traverseEdge h x y d else p := by
  unfold Part.handleEdge
  cases e : x.phase <;> simp_all [Phase.isTraverse]

end

/-- The phases in which a head is met by an edge (R5). -/
theorem Phase.cases (ph : Phase) :
    ph = .off ∨ ph = .test ∨ ph = .unsettled ∨ ph = .idle ∨ ph.isTraverse = true := by
  cases ph <;> simp [Phase.isTraverse]

/-! ### Crossings -/

/-- One edge in a traverse, by the table of R7 (R7 to R9). -/
theorem crossing_of_next (c : Params) (x : HeadDecoder) {ph nx : Phase} (suspect : Bool) {y : System} {d : EdgeDir}
    (stamp : Word) (e : traverseNext ph y d = some nx) :
    crossing c x ph suspect y d stamp =
      { phase := nx
        suspect := suspect || (x.sensor y.other).within stamp c.minSep
        fault := (x.sensor y.other).within stamp c.minSep && !suspect
        outcome :=
          if nx = .idle then
            some (endOutcome c.minPulse x ph (suspect || (x.sensor y.other).within stamp c.minSep) y stamp)
          else none } := by
  unfold crossing
  rw [e]
  cases nx <;> rfl

/-- How a traverse ends (R9). -/
theorem endOutcome_eq (minPulse : Nat) (x : HeadDecoder) (ph : Phase) (suspect : Bool) (y : System) (stamp : Word) :
    endOutcome minPulse x ph suspect y stamp =
      ((if suspect = true then .suspect
        else if ph = .depA ∨ ph = .depB then .counted
        else if (x.sensor y).lessThan stamp minPulse then .glitch
        else .retreat), ph.arrivalDirection) := by
  unfold endOutcome
  rw [Sensor.within_eq]
  cases suspect
  · by_cases short : (x.sensor y).lessThan stamp minPulse
    · rw [decide_eq_true short]
      cases ph <;> simp only [if_pos short] <;> rfl
    · rw [decide_eq_false short]
      cases ph <;> simp only [if_neg short] <;> rfl
  · rfl

section
variable (p : Part) (h : HeadId) (x : HeadDecoder) {y : System} {d : EdgeDir} {nx : Phase}

/-- A separation fault of the edge, which marks the traverse as suspect (R8). -/
abbrev HeadDecoder.faulty (x : HeadDecoder) (c : Params) (y : System) (stamp : Word) : Prop :=
  (x.sensor y.other).lessThan stamp c.minSep

/-- An edge that leaves the head in its traverse (R7, R8). -/
theorem Part.traverseEdge_moves (e : traverseNext x.phase y d = some nx) (ne : nx ≠ .idle) :
    p.traverseEdge h x y d =
      (p.setHdec h
        { p.hdec[h] with
          phase := nx, suspect := x.suspect || decide (x.faulty p.topo.params y p.tbase.us) }).separationReport h
        (decide (x.faulty p.topo.params y p.tbase.us) && !x.suspect) := by
  simp only [Part.traverseEdge, crossing_of_next _ _ _ _ e, if_neg ne, Sensor.within_eq]

/-- An edge that ends the traverse of the head (R9). -/
theorem Part.traverseEdge_ends (e : traverseNext x.phase y d = some .idle) :
    p.traverseEdge h x y d =
      (p.separationReport h (decide (x.faulty p.topo.params y p.tbase.us) && !x.suspect)).endTraverse h
        (x.suspect || decide (x.faulty p.topo.params y p.tbase.us))
        (endOutcome p.topo.params.minPulse x x.phase
          (x.suspect || decide (x.faulty p.topo.params y p.tbase.us)) y p.tbase.us) := by
  simp only [Part.traverseEdge, crossing_of_next _ _ _ _ e, if_true, Sensor.within_eq]

/-- An edge of a head in TEST that begins a traverse of the shadow decoding (R20). -/
theorem Part.shadowEdge_rising (ph : x.shadowPhase = some .idle) :
    p.shadowEdge h x y .rising =
      p.setHdec h { p.hdec[h] with shadowPhase := some (arrival y), shadowSuspect := false } := by
  simp only [Part.shadowEdge, ph]

theorem Part.shadowEdge_falling (ph : x.shadowPhase = some .idle) : p.shadowEdge h x y .falling = p := by
  simp only [Part.shadowEdge, ph]

/-- An edge of a head in TEST within a traverse of the shadow decoding (R20). -/
theorem Part.shadowEdge_traverse {ph : Phase} (e : x.shadowPhase = some ph) (t : ph ≠ .idle) :
    p.shadowEdge h x y d =
      (p.setHdec h
        { p.hdec[h] with
          shadowPhase := some (crossing p.topo.params x ph x.shadowSuspect y d p.tbase.us).phase
          shadowSuspect := (crossing p.topo.params x ph x.shadowSuspect y d p.tbase.us).suspect }).setGen
        (p.gen.shadow (crossing p.topo.params x ph x.shadowSuspect y d p.tbase.us)) := by
  unfold Part.shadowEdge
  rw [e]
  cases ph <;> simp_all

end

/-! ### What an edge writes of HDEC -/

section
variable (p : Part) (h g : HeadId)

theorem Part.endTraverse_hdec_get (b : Bool) (o : PassageOutcome × Direction) :
    (p.endTraverse h b o).hdec[g] =
      if h = g then { p.hdec[h] with phase := .idle, suspect := b, dwellStart := none, standing := false }
      else p.hdec[g] := by
  rw [Part.endTraverse, (Part.handOn_frame _ _ _).1, (Part.passageRecord_frame _ _ _).1, Part.standingEnd_hdec,
    Part.setHdec_get]

theorem Part.leaveIdle_hdec_get (y : System) :
    (p.leaveIdle h y).hdec[g] =
      if h = g then { p.hdec[h] with phase := arrival y, suspect := false, dwellStart := some p.tbase.ms }
      else p.hdec[g] := by
  rw [Part.leaveIdle, Part.sendScnt_hdec, Part.setHdec_get]

/-- What an UNSETTLED head tells SCNT of an edge (R16, R22). -/
def Part.unsettledNotice : ToScnt := if p.allowance h then .movement h else .unsettledChange h

/-- The edge leaves both systems undamped: the head is in IDLE (R16). -/
theorem Part.unsettledEdge_of_free (free : p.hdec[h].free = true) :
    p.unsettledEdge h =
      ((p.sendScnt (p.unsettledNotice h)).setHdec h
        { p.hdec[h] with phase := .idle, dwellStart := none, standing := false }).standingEnd p.tbase.ms h
          p.hdec[h].standing := if_pos free

theorem Part.unsettledEdge_of_held (held : ¬ p.hdec[h].free = true) :
    p.unsettledEdge h = p.sendScnt (p.unsettledNotice h) := if_neg held

end

/-- The other heads and the sensors stay, whatever the phase makes of the edge. -/
structure Part.KeepsSensors (p q : Part) (h : HeadId) : Prop where
  other : ∀ g : HeadId, g ≠ h → q.hdec[g] = p.hdec[g]
  sensorA : q.hdec[h].sensorA = p.hdec[h].sensorA
  sensorB : q.hdec[h].sensorB = p.hdec[h].sensorB

section
variable {p q r : Part} {h : HeadId}

theorem Part.keepsSensors_of_same (e : q.hdec = p.hdec) : p.KeepsSensors q h :=
  ⟨fun g _ => by rw [e], by rw [e], by rw [e]⟩

theorem Part.keepsSensors_set {x : HeadDecoder} (get : ∀ g : HeadId, q.hdec[g] = if h = g then x else p.hdec[g])
    (a : x.sensorA = p.hdec[h].sensorA) (b : x.sensorB = p.hdec[h].sensorB) : p.KeepsSensors q h := by
  exact ⟨fun g ne => by rw [get, if_neg (Ne.symm ne)], by rw [get, if_pos rfl, a], by rw [get, if_pos rfl, b]⟩

theorem Part.KeepsSensors.trans (a : p.KeepsSensors q h) (b : q.KeepsSensors r h) : p.KeepsSensors r h :=
  ⟨fun g ne => (b.other g ne).trans (a.other g ne), b.sensorA.trans a.sensorA, b.sensorB.trans a.sensorB⟩

theorem Part.keepsSensors_setHdec (x : HeadDecoder) (a : x.sensorA = p.hdec[h].sensorA)
    (b : x.sensorB = p.hdec[h].sensorB) : p.KeepsSensors (p.setHdec h x) h :=
  keepsSensors_set (p.setHdec_get h · x) a b

theorem Part.keepsSensors_handleEdge (p : Part) (h : HeadId) (x : HeadDecoder) (y : System) (d : EdgeDir) :
    p.KeepsSensors (p.handleEdge h x y d) h := by
  have same : p.KeepsSensors p h := keepsSensors_of_same rfl
  obtain ph | ph | ph | ph | ph := x.phase.cases
  · rw [handleEdge_off ph]
    exact keepsSensors_of_same (by simp)
  · rw [handleEdge_shadow ph]
    unfold Part.shadowEdge
    split
    · exact same
    · split
      · exact keepsSensors_setHdec _ rfl rfl
      · exact same
    · refine KeepsSensors.trans ?_ (keepsSensors_of_same (Part.setGen_hdec _ _))
      exact keepsSensors_setHdec _ rfl rfl
  · rw [handleEdge_unsettled ph]
    split
    · by_cases free : p.hdec[h].free = true
      · rw [Part.unsettledEdge_of_free p h free]
        refine KeepsSensors.trans ?_ (keepsSensors_of_same (Part.standingEnd_hdec _ _ _ _))
        refine KeepsSensors.trans (keepsSensors_of_same (p.sendScnt_hdec (p.unsettledNotice h))) ?_
        exact keepsSensors_setHdec _ rfl rfl
      · rw [Part.unsettledEdge_of_held p h free]
        exact keepsSensors_of_same rfl
    · exact same
  · cases d
    · rw [handleEdge_rising ph]
      split
      · exact keepsSensors_set (p.leaveIdle_hdec_get h · y) rfl rfl
      · exact same
    · rw [handleEdge_falling ph]
      exact same
  · rw [handleEdge_traverse ph]
    split
    · simp only [Part.traverseEdge]
      split
      · exact (keepsSensors_of_same (by simp)).trans (keepsSensors_set (Part.endTraverse_hdec_get _ h · _ _) rfl rfl)
      · refine KeepsSensors.trans ?_ (keepsSensors_of_same (Part.separationReport_frame _ _ _).1)
        exact keepsSensors_setHdec _ rfl rfl
    · exact same

end

end Sys2Proof.Machine

/-! SUPPORT. What holds of the heads and the generator between steps: a head's record by itself, the links from HDEC to
SUPV and to TGEN, and the levels a test drives. -/

namespace Sys2Proof.Machine

open Sys2Proof

/-! ### One head's record -/

/-- The part of HeadOk that speaks of one record alone (R4, R12, R13, R19 to R21). -/
structure HeadDecoder.Fits (x : HeadDecoder) : Prop where
  levels : x.phase.levels x.sensorA.damped x.sensorB.damped = true
  dwell : x.dwellStart.isSome = x.phase.isDwell
  stands : x.standing = true → x.phase.isDwell = true
  shadow : x.shadowPhase.isSome = decide (x.phase = .test)
  shadowLevels : ∀ ph, x.shadowPhase = some ph →
    ph.levels x.sensorA.damped x.sensorB.damped = true ∧ (ph = .idle ∨ ph.isTraverse = true)

section
variable {x : HeadDecoder}

theorem HeadDecoder.Fits.not_standing (hx : x.Fits) (ph : x.phase.isDwell = false) : x.standing = false := by
  by_contra k
  rw [hx.stands (by simpa using k)] at ph
  cases ph

theorem HeadDecoder.Fits.no_shadow (hx : x.Fits) (ph : x.phase ≠ .test) : x.shadowPhase = none := by
  have k := hx.shadow
  rw [decide_eq_false ph] at k
  simpa using k

/-- A record with no shadow decoding. -/
theorem HeadDecoder.fits_of_untested (test : x.phase ≠ .test)
    (levels : x.phase.levels x.sensorA.damped x.sensorB.damped = true) (dwell : x.dwellStart.isSome = x.phase.isDwell)
    (stands : x.standing = true → x.phase.isDwell = true) (shadow : x.shadowPhase = none) : x.Fits := by
  refine ⟨levels, dwell, stands, ?_, fun ph e => ?_⟩
  · rw [shadow, decide_eq_false test]
    rfl
  · rw [shadow] at e
    cases e

theorem HeadDecoder.fits_toOff (x : HeadDecoder) : x.toOff.Fits :=
  fits_of_untested (by simp [HeadDecoder.toOff]) rfl rfl (fun k => by cases k) rfl

theorem HeadDecoder.fits_powerOn (a b : Bool) : (HeadDecoder.powerOn a b).Fits :=
  fits_of_untested (by simp [HeadDecoder.powerOn]) rfl rfl (fun k => by cases k) rfl

/-- A head placed by its levels (R15). -/
theorem HeadDecoder.fits_settleByLevels (x : HeadDecoder) (ms : Word) (no : x.standing = false) :
    (x.settleByLevels ms).Fits := by
  unfold HeadDecoder.settleByLevels
  split
  · rename_i free
    refine fits_of_untested (by simp) free rfl (fun k => ?_) rfl
    exact absurd (no.symm.trans k) (by simp)
  · rename_i held
    refine fits_of_untested (by simp) ?_ rfl (fun _ => rfl) rfl
    simpa [HeadDecoder.free, Phase.levels, Classical.or_iff_not_imp_left] using held

theorem HeadDecoder.settleByLevels_phase (x : HeadDecoder) (ms : Word) :
    (x.settleByLevels ms).phase ≠ .test ∧ (x.settleByLevels ms).phase ≠ .off := by
  unfold HeadDecoder.settleByLevels
  split <;> simp

/-- A head that enters TEST from IDLE (R19). -/
theorem HeadDecoder.Fits.enterTest (hx : x.Fits) (idle : x.phase = .idle) : x.enterTest.Fits := by
  refine ⟨rfl, rfl, fun k => ?_, rfl, fun ph e => ?_⟩
  · exact absurd ((hx.not_standing (by rw [idle]; rfl)).symm.trans k) (by simp)
  · cases e
    have l := hx.levels
    rw [idle] at l
    exact ⟨l, .inl rfl⟩

theorem HeadDecoder.Fits.older (hx : x.Fits) : x.older.Fits :=
  ⟨hx.levels, hx.dwell, hx.stands, hx.shadow, hx.shadowLevels⟩

/-- Standing is set while the dwell start stands (R13). -/
theorem HeadDecoder.Fits.setStanding (hx : x.Fits) (d : x.dwellStart.isSome = true) :
    ({ x with standing := true } : HeadDecoder).Fits :=
  ⟨hx.levels, hx.dwell, fun _ => hx.dwell ▸ d, hx.shadow, hx.shadowLevels⟩

theorem HeadDecoder.dwellReached_isSome {limit : Nat} {ms : Word} (k : x.dwellReached limit ms = true) :
    x.dwellStart.isSome = true := by
  unfold HeadDecoder.dwellReached at k
  split at k
  · cases k
  · simp_all

/-! ### Levels after an edge -/

/-- A rising edge of an undamped head goes with the arrival at its system (R4, R6). -/
theorem HeadDecoder.arrival_levels (x : HeadDecoder) (y : System) (us : Word)
    (l : Phase.idle.levels x.sensorA.damped x.sensorB.damped = true) :
    (arrival y).levels (x.atEdge y .rising us).sensorA.damped (x.atEdge y .rising us).sensorB.damped = true ∧
      (arrival y).isTraverse = true := by
  cases y <;> simp_all [Phase.levels, HeadDecoder.atEdge, HeadDecoder.setSensor, Sensor.edge, EdgeDir.damped, arrival,
    Phase.isTraverse]

/-- Neither system of an undamped head can fall. -/
theorem HeadDecoder.not_falling (x : HeadDecoder) (y : System)
    (l : Phase.idle.levels x.sensorA.damped x.sensorB.damped = true)
    (change : (x.sensor y).damped ≠ EdgeDir.falling.damped) : False := by
  cases y <;> simp_all [Phase.levels, HeadDecoder.sensor, EdgeDir.damped]

/-- In a traverse whose levels agree with its phase, the table of R7 has a row for each edge, and the next phase agrees
with the levels after it. -/
theorem HeadDecoder.traverse_next (x : HeadDecoder) {ph : Phase} (t : ph.isTraverse = true) (y : System) (d : EdgeDir)
    (us : Word) (l : ph.levels x.sensorA.damped x.sensorB.damped = true) (change : (x.sensor y).damped ≠ d.damped) :
    ∃ nx, traverseNext ph y d = some nx ∧ (nx = .idle ∨ nx.isTraverse = true) ∧
      nx.levels (x.atEdge y d us).sensorA.damped (x.atEdge y d us).sensorB.damped = true := by
  cases ph <;> cases y <;> cases d <;>
    simp_all [Phase.isTraverse, Phase.levels, HeadDecoder.sensor, EdgeDir.damped, traverseNext, HeadDecoder.atEdge,
      HeadDecoder.setSensor, Sensor.edge]

theorem Phase.isDwell_of_traverse {ph : Phase} (t : ph.isTraverse = true) : ph.isDwell = true := by
  cases ph <;> simp_all [Phase.isTraverse, Phase.isDwell]

theorem Phase.isTraverse_ne {ph : Phase} (t : ph.isTraverse = true) :
    ph ≠ .test ∧ ph ≠ .off ∧ ph ≠ .idle ∧ ph ≠ .unsettled := by
  cases ph <;> simp_all [Phase.isTraverse]

end

/-! ### The generator -/

/-- The items of the generator that the heads and the drive depend on. -/
def Generator.core (g : Generator) : GenState × Option HeadId × Option Direction × Nat × Bool × Bool :=
  (g.state, g.target, g.direction, g.step, g.expectA, g.expectB)

theorem Generator.core_eq_iff (g k : Generator) :
    k.core = g.core ↔
      k.state = g.state ∧ k.target = g.target ∧ k.direction = g.direction ∧ k.step = g.step ∧ k.expectA = g.expectA ∧
        k.expectB = g.expectB := by
  simp [Generator.core]

/-- A generator that does not run drives nothing. -/
theorem Generator.drivesStep_of_stopped {g : Generator} (st : g.state ≠ .running) (a : g.expectA = false)
    (b : g.expectB = false) : g.drivesStep := ⟨fun _ => ⟨a, b⟩, fun k => absurd k st⟩

theorem Generator.drivesStep.congr {g k : Generator} (hg : g.drivesStep) (e : k.core = g.core) : k.drivesStep := by
  obtain ⟨st, -, dir, step, a, b⟩ := (g.core_eq_iff k).mp e
  unfold Generator.drivesStep
  rw [st, dir, step, a, b]
  exact hg

/-- A step that begins drives its levels (R95). -/
theorem Generator.drivesStep.beginStep {g : Generator} (hg : g.drivesStep) (run : g.state = .running) (k : Nat)
    (first : 1 ≤ k) (last : k ≤ 4) (ms : Word) (t : Nat) : (g.beginStep k ms t).drivesStep := by
  obtain ⟨-, d, dir, -⟩ := hg.2 run
  refine ⟨fun st => absurd run st, fun _ => ⟨last, d, dir, ?_⟩⟩
  simp only [Generator.beginStep, Generator.dir, dir, Option.getD_some]
  interval_cases k <;> cases d <;> rfl

/-- A test that is accepted drives nothing yet (R94). -/
theorem Generator.drivesStep_accept (g : Generator) (n : SlotId) (h : HeadId) (d : Direction) :
    (g.accept n h d).drivesStep := ⟨fun st => absurd rfl st, fun _ => ⟨Nat.zero_le _, d, rfl, by cases d <;> rfl⟩⟩

/-! ### All heads -/

/-- The invariant of O52, with the part of each record apart from its links. -/
structure HeadsFit (p : Part) : Prop where
  fits : ∀ h : HeadId, p.hdec[h].Fits
  works : ∀ h : HeadId, p.hdec[h].phase ≠ .off →
    p.running = true ∧ p.used h = true ∧ p.supv[h].health.inService = true
  tested : ∀ h : HeadId, p.hdec[h].phase = .test → p.gen.state = .running ∧ p.gen.target = some h
  tests : p.gen.state = .running → ∃ h : HeadId, p.gen.target = some h ∧ p.hdec[h].phase = .test
  known : p.running = true → ∀ h : HeadId, p.supv[h].health ≠ .unused → p.used h = true
  restart : ∀ h : HeadId, p.supv[h].restartSlot ≠ none → p.supv[h].health = .recovering
  drive : p.gen.drivesStep

theorem headsOk_iff (p : Part) : HeadsOk p ↔ HeadsFit p := by
  constructor
  · rintro ⟨heads, tests, known, restart, drive⟩
    refine ⟨fun h => ?_, fun h => ?_, fun h => ?_, tests, known, restart, drive⟩
    · obtain ⟨levels, -, dwell, stands, shadow, shadowLevels, -⟩ := heads h
      exact ⟨levels, dwell, stands, shadow, shadowLevels⟩
    · exact (heads h).2.1
    · exact (heads h).2.2.2.2.2.2
  · intro hp
    refine ⟨fun h => ?_, hp.tests, hp.known, hp.restart, hp.drive⟩
    obtain ⟨levels, dwell, stands, shadow, shadowLevels⟩ := hp.fits h
    exact ⟨levels, hp.works h, dwell, stands, shadow, shadowLevels, hp.tested h⟩

/-- A head out of OFF, TEST aside, is decoding (R5). -/
theorem HeadsFit.decoding {p : Part} (hp : HeadsFit p) (h : HeadId) (off : p.hdec[h].phase ≠ .off)
    (test : p.hdec[h].phase ≠ .test) : p.decoding h = true := by
  obtain ⟨run, used, serv⟩ := hp.works h off
  refine (p.decoding_iff h).mpr ⟨run, used, fun e => ?_, fun e => ?_, test, off⟩ <;> rw [e] at serv <;> cases serv

/-- What the heads lean on outside HDEC and SUPV stays: the mode, the parameters and the generator's items. -/
structure Part.SameFrame (p q : Part) : Prop where
  mode : q.topo.mode = p.topo.mode
  params : q.topo.params = p.topo.params
  core : q.gen.core = p.gen.core

section
variable {p q : Part}

theorem Part.SameFrame.of_eq (topo : q.topo = p.topo) (gen : q.gen = p.gen) : p.SameFrame q :=
  ⟨by rw [topo], by rw [topo], by rw [gen]⟩

theorem Part.running_of_mode (mode : q.topo.mode = p.topo.mode) : q.running = p.running := by
  simp only [Part.running, mode]

theorem Part.used_of_params (params : q.topo.params = p.topo.params) (h : HeadId) : q.used h = p.used h := by
  simp only [Part.used, Part.headEntry, params]

/-- One head's records in HDEC and SUPV are written, the frame stays. -/
theorem HeadsFit.write (hp : HeadsFit p) (h : HeadId) (x : HeadDecoder) (v : HeadHealth)
    (hdec : ∀ g : HeadId, q.hdec[g] = if h = g then x else p.hdec[g])
    (supv : ∀ g : HeadId, q.supv[g] = if h = g then v else p.supv[g]) (same : p.SameFrame q) (fits : x.Fits)
    (test : x.phase = .test ↔ p.hdec[h].phase = .test)
    (works : x.phase ≠ .off → p.running = true ∧ p.used h = true ∧ v.health.inService = true)
    (known : v.health ≠ .unused → p.supv[h].health ≠ .unused)
    (restart : v.restartSlot ≠ none → v.health = .recovering) : HeadsFit q := by
  obtain ⟨mode, params, core⟩ := same
  have run := Part.running_of_mode mode
  have used := Part.used_of_params params
  have core' := (p.gen.core_eq_iff q.gen).mp core
  have phase (g : HeadId) : q.hdec[g].phase = .test ↔ p.hdec[g].phase = .test := by
    rw [hdec]
    split
    · rename_i e
      exact e ▸ test
    · exact Iff.rfl
  refine ⟨fun g => ?_, fun g => ?_, fun g k => ?_, fun k => ?_, fun k g => ?_, fun g => ?_, hp.drive.congr core⟩
  · rw [hdec]
    split
    · exact fits
    · exact hp.fits g
  · rw [hdec, supv, run, used]
    split
    · rename_i e
      exact e ▸ works
    · exact hp.works g
  · rw [core'.1, core'.2.1]
    exact hp.tested g ((phase g).mp k)
  · obtain ⟨g, target, ph⟩ := hp.tests (core'.1 ▸ k)
    exact ⟨g, core'.2.1 ▸ target, (phase g).mpr ph⟩
  · rw [supv, used]
    rw [run] at k
    split
    · rename_i e
      exact fun u => e ▸ hp.known k h (known u)
    · exact hp.known k g
  · rw [supv]
    split
    · exact restart
    · exact hp.restart g

/-- One head is written in HDEC. -/
theorem HeadsFit.writeHead (hp : HeadsFit p) (h : HeadId) (x : HeadDecoder)
    (hdec : ∀ g : HeadId, q.hdec[g] = if h = g then x else p.hdec[g]) (supv : q.supv = p.supv) (same : p.SameFrame q)
    (fits : x.Fits) (test : x.phase = .test ↔ p.hdec[h].phase = .test)
    (works : x.phase ≠ .off → p.running = true ∧ p.used h = true ∧ p.supv[h].health.inService = true) : HeadsFit q := by
  refine hp.write h x p.supv[h] hdec (fun g => ?_) same fits test works id (hp.restart h)
  rw [supv]
  split
  · rename_i e
    rw [e]
  · rfl

/-- One head is written in SUPV, with what a head out of OFF needs. -/
theorem HeadsFit.writeHealth (hp : HeadsFit p) (h : HeadId) (v : HeadHealth) (hdec : q.hdec = p.hdec)
    (supv : ∀ g : HeadId, q.supv[g] = if h = g then v else p.supv[g]) (same : p.SameFrame q)
    (serv : p.hdec[h].phase ≠ .off → v.health.inService = true)
    (known : v.health ≠ .unused → p.supv[h].health ≠ .unused)
    (restart : v.restartSlot ≠ none → v.health = .recovering) : HeadsFit q := by
  refine hp.write h p.hdec[h] v (fun g => ?_) supv same (hp.fits h) Iff.rfl
    (fun off => ⟨(hp.works h off).1, (hp.works h off).2.1, serv off⟩) known restart
  rw [hdec]
  split
  · rename_i e
    rw [e]
  · rfl

/-- The generator is written and runs the same test, or none before and after. -/
theorem HeadsFit.writeGen (hp : HeadsFit p) (hdec : q.hdec = p.hdec) (supv : q.supv = p.supv)
    (mode : q.topo.mode = p.topo.mode) (params : q.topo.params = p.topo.params)
    (state : q.gen.state = .running ↔ p.gen.state = .running)
    (target : p.gen.state = .running → q.gen.target = p.gen.target) (drive : q.gen.drivesStep) : HeadsFit q := by
  have run := Part.running_of_mode mode
  have used := Part.used_of_params params
  refine ⟨fun h => ?_, fun h => ?_, fun h => ?_, fun k => ?_, ?_, fun h => ?_, drive⟩
  · rw [hdec]
    exact hp.fits h
  · rw [hdec, supv, run, used]
    exact hp.works h
  · rw [hdec]
    intro ph
    obtain ⟨st, tg⟩ := hp.tested h ph
    exact ⟨state.mpr st, (target st).trans tg⟩
  · obtain ⟨h, tg, ph⟩ := hp.tests (state.mp k)
    exact ⟨h, (target (state.mp k)).trans tg, by rw [hdec]; exact ph⟩
  · rw [run]
    intro k h
    rw [supv, used]
    exact hp.known k h
  · rw [supv]
    exact hp.restart h

/-- A test ends: its head is placed by its levels, and the generator runs no more (R15, R100 to R103). -/
theorem HeadsFit.testEnds (hp : HeadsFit p) (h : HeadId) (run : p.gen.state = .running)
    (target : p.gen.target = some h) (ms : Word)
    (hdec : ∀ g : HeadId, q.hdec[g] = if h = g then p.hdec[h].settleByLevels ms else p.hdec[g])
    (supv : q.supv = p.supv) (topo : q.topo = p.topo) (stops : q.gen.state ≠ .running) (drive : q.gen.drivesStep) :
    HeadsFit q := by
  have test : p.hdec[h].phase = .test := by
    obtain ⟨g, tg, ph⟩ := hp.tests run
    rw [target] at tg
    cases tg
    exact ph
  have still := hp.works h (by rw [test]; decide)
  have placed := p.hdec[h].settleByLevels_phase ms
  have used := Part.used_of_params (p := p) (q := q) (by rw [topo])
  have running := Part.running_of_mode (p := p) (q := q) (by rw [topo])
  refine ⟨fun g => ?_, fun g => ?_, fun g => ?_, fun k => absurd k stops, ?_, fun g => ?_, drive⟩
  · rw [hdec]
    split
    · exact HeadDecoder.fits_settleByLevels _ _ ((hp.fits h).not_standing (by rw [test]; rfl))
    · exact hp.fits g
  · rw [hdec, supv, used, running]
    split
    · rename_i e
      exact fun _ => e ▸ still
    · exact hp.works g
  · rw [hdec]
    split
    · exact fun k => absurd k placed.1
    · rename_i ne
      intro k
      have tg := (hp.tested g k).2
      rw [target] at tg
      exact absurd (Option.some.inj tg) ne
  · rw [running]
    intro k g
    rw [supv, used]
    exact hp.known k g
  · rw [supv]
    exact hp.restart g

/-- HDEC and SUPV stay too. -/
theorem HeadsFit.congr (hp : HeadsFit p) (hdec : q.hdec = p.hdec) (supv : q.supv = p.supv) (same : p.SameFrame q) :
    HeadsFit q := by
  have core := (p.gen.core_eq_iff q.gen).mp same.core
  exact hp.writeGen hdec supv same.mode same.params (by rw [core.1]) (fun _ => core.2.1) (hp.drive.congr same.core)

end

end Sys2Proof.Machine

/-! SUPPORT. Every update keeps what holds of the heads and the generator: the edges by the table of R7, a failure by
what OFF clears, a test's end by the levels. -/

namespace Sys2Proof.Machine

open Sys2Proof

section
variable {p q : Part} {h : HeadId}

/-! ### Edges -/

section
variable {x : HeadDecoder} (hx : x.Fits) (y : System) (d : EdgeDir) (us : Word)
include hx

/-- The edge leaves the phase as it was. -/
theorem HeadDecoder.Fits.atEdge (test : x.phase ≠ .test)
    (levels : x.phase.levels (x.atEdge y d us).sensorA.damped (x.atEdge y d us).sensorB.damped = true) :
    (x.atEdge y d us).Fits := by
  obtain ⟨phase, -, dwell, stands, shadow, -⟩ := x.atEdge_keeps y d us
  refine HeadDecoder.fits_of_untested (by rw [phase]; exact test) (by rw [phase]; exact levels) ?_ ?_
    (shadow.trans (hx.no_shadow test))
  · rw [dwell, phase]
    exact hx.dwell
  · rw [stands, phase]
    exact hx.stands

/-- The edge ends a traverse or the stay in UNSETTLED (R9, R16). -/
theorem HeadDecoder.Fits.atEdge_idle (test : x.phase ≠ .test) (b : Bool)
    (levels : Phase.idle.levels (x.atEdge y d us).sensorA.damped (x.atEdge y d us).sensorB.damped = true) :
    ({ x.atEdge y d us with phase := .idle, suspect := b, dwellStart := none, standing := false } : HeadDecoder).Fits :=
  HeadDecoder.fits_of_untested (by simp) levels rfl (fun k => by cases k)
    ((x.atEdge_keeps y d us).2.2.2.2.1.trans (hx.no_shadow test))

/-- The edge begins a traverse or moves in it (R6, R7). -/
theorem HeadDecoder.Fits.atEdge_traverse (test : x.phase ≠ .test) {nx : Phase} (t : nx.isTraverse = true) (b : Bool)
    {w : Option Word} (start : w.isSome = true)
    (levels : nx.levels (x.atEdge y d us).sensorA.damped (x.atEdge y d us).sensorB.damped = true) :
    ({ x.atEdge y d us with phase := nx, suspect := b, dwellStart := w } : HeadDecoder).Fits :=
  HeadDecoder.fits_of_untested (Phase.isTraverse_ne t).1 levels (start.trans (Phase.isDwell_of_traverse t).symm)
    (fun _ => Phase.isDwell_of_traverse t) ((x.atEdge_keeps y d us).2.2.2.2.1.trans (hx.no_shadow test))

/-- The edge moves the shadow decoding (R20). -/
theorem HeadDecoder.Fits.atEdge_shadow (test : x.phase = .test) {nx : Phase} (t : nx = .idle ∨ nx.isTraverse = true)
    (b : Bool)
    (levels : nx.levels (x.atEdge y d us).sensorA.damped (x.atEdge y d us).sensorB.damped = true) :
    ({ x.atEdge y d us with shadowPhase := some nx, shadowSuspect := b } : HeadDecoder).Fits := by
  obtain ⟨phase, -, dwell, stands, -, -⟩ := x.atEdge_keeps y d us
  refine ⟨?_, ?_, fun k => ?_, ?_, fun ph e => ?_⟩
  · simp only [phase, test, Phase.levels]
  · rw [dwell, phase]
    exact hx.dwell
  · rw [phase]
    exact hx.stands (stands.symm.trans k)
  · simp only [phase, test, Option.isSome_some, decide_true]
  · cases e
    exact ⟨levels, t⟩

end

/-- The head that an edge meets, with all it has written there; the frame and SUPV stay. -/
theorem HeadsFit.edgeWrite (hp : HeadsFit p) (y : System) (d : EdgeDir) (z : HeadDecoder)
    (hdec : ∀ g : HeadId, q.hdec[g] = if h = g then z else (p.atEdge h y d).hdec[g]) (supv : q.supv = p.supv)
    (same : p.SameFrame q) (fits : z.Fits) (test : z.phase = .test ↔ p.hdec[h].phase = .test)
    (off : z.phase ≠ .off → p.hdec[h].phase ≠ .off) : HeadsFit q := by
  refine hp.writeHead h z (fun g => ?_) supv same fits test fun k => hp.works h (off k)
  rw [hdec, Part.atEdge_hdec_get]
  split <;> rfl

/-- Nothing but the level of the head is written. -/
theorem HeadsFit.edgeLevel (hp : HeadsFit p) (y : System) (d : EdgeDir) (hdec : q.hdec = (p.atEdge h y d).hdec)
    (supv : q.supv = p.supv) (same : p.SameFrame q) (test : p.hdec[h].phase ≠ .test)
    (levels : p.hdec[h].phase.levels (p.hdec[h].atEdge y d p.tbase.us).sensorA.damped
      (p.hdec[h].atEdge y d p.tbase.us).sensorB.damped = true) : HeadsFit q := by
  have phase := (HeadDecoder.atEdge_keeps p.hdec[h] y d p.tbase.us).1
  refine hp.edgeWrite (h := h) y d (p.hdec[h].atEdge y d p.tbase.us) (fun g => ?_) supv same
    ((hp.fits h).atEdge y d p.tbase.us test levels) (by rw [phase]) (by rw [phase]; exact id)
  rw [hdec, Part.atEdge_hdec_get]
  split <;> rfl

theorem HeadsFit.edge_off (hp : HeadsFit p) (y : System) (d : EdgeDir) (ph : p.hdec[h].phase = .off) :
    HeadsFit (p.takeEdge h y d) := by
  rw [Part.takeEdge_eq, Part.handleEdge_off ph]
  exact hp.edgeLevel y d (Part.offEdge_frame _ h).1 (by simp) (.of_eq (by simp) (by simp)) (by rw [ph]; decide)
    (by rw [ph]; rfl)

/-- An edge in TEST moves the shadow decoding by the same table (R20). -/
theorem HeadsFit.edge_test (hp : HeadsFit p) (y : System) (d : EdgeDir) (ph : p.hdec[h].phase = .test)
    (change : (p.hdec[h].sensor y).damped ≠ d.damped) : HeadsFit (p.takeEdge h y d) := by
  rw [Part.takeEdge_eq, Part.handleEdge_shadow ph]
  have phase := (HeadDecoder.atEdge_keeps p.hdec[h] y d p.tbase.us).1
  have get := p.atEdge_hdec_get h y d h
  rw [if_pos rfl] at get
  have write (nx : Phase) (b : Bool) (q : Part)
      (levels : nx.levels (p.hdec[h].atEdge y d p.tbase.us).sensorA.damped
        (p.hdec[h].atEdge y d p.tbase.us).sensorB.damped = true)
      (t : nx = .idle ∨ nx.isTraverse = true)
      (hdec : q.hdec = ((p.atEdge h y d).setHdec h
        { p.hdec[h].atEdge y d p.tbase.us with shadowPhase := some nx, shadowSuspect := b }).hdec)
      (supv : q.supv = p.supv) (same : p.SameFrame q) : HeadsFit q := by
    refine hp.edgeWrite (h := h) y d
      { p.hdec[h].atEdge y d p.tbase.us with shadowPhase := some nx, shadowSuspect := b } (fun g => ?_) supv same
      ((hp.fits h).atEdge_shadow y d _ ph t b levels) (iff_of_true (phase.trans ph) ph) fun _ => by rw [ph]; decide
    rw [hdec, Part.setHdec_get]
  have some_ : ∃ sh, p.hdec[h].shadowPhase = some sh := by
    have k := (hp.fits h).shadow
    rw [decide_eq_true ph] at k
    exact Option.isSome_iff_exists.mp k
  obtain ⟨sh, e⟩ := some_
  obtain ⟨levels, rfl | t⟩ := (hp.fits h).shadowLevels sh e
  · cases d with
    | rising =>
      have arr := p.hdec[h].arrival_levels y p.tbase.us levels
      rw [Part.shadowEdge_rising _ _ _ e]
      exact write (arrival y) false _ arr.1 (.inr arr.2) (by rw [get]) (by simp) (.of_eq (by simp) (by simp))
    | falling => exact absurd change (fun c => p.hdec[h].not_falling y levels c)
  · obtain ⟨nx, next, shape, after⟩ := p.hdec[h].traverse_next t y d p.tbase.us levels change
    rw [Part.shadowEdge_traverse _ _ _ e (Phase.isTraverse_ne t).2.2.1, crossing_of_next _ _ _ _ next]
    exact write nx _ _ after shape (by rw [get, Part.setGen_hdec]) (by simp)
      ⟨by simp, by simp, by simp [Generator.shadow, Generator.core]⟩

theorem HeadsFit.edge_unsettled (hp : HeadsFit p) (y : System) (d : EdgeDir) (ph : p.hdec[h].phase = .unsettled) :
    HeadsFit (p.takeEdge h y d) := by
  have dec := hp.decoding h (by rw [ph]; decide) (by rw [ph]; decide)
  have get := p.atEdge_hdec_get h y d h
  rw [if_pos rfl] at get
  have nt : p.hdec[h].phase ≠ .test := by rw [ph]; decide
  rw [Part.takeEdge_eq, Part.handleEdge_unsettled ph, if_pos ((Part.atEdge_decoding _ _ _ _).trans dec)]
  by_cases free : (p.atEdge h y d).hdec[h].free = true
  · rw [Part.unsettledEdge_of_free _ _ free]
    rw [get] at free ⊢
    refine hp.edgeWrite (h := h) y d
      { p.hdec[h].atEdge y d p.tbase.us with phase := .idle, dwellStart := none, standing := false } (fun g => ?_)
      (by simp) (.of_eq (by simp) (by simp)) ((hp.fits h).atEdge_idle y d _ nt _ free)
      (iff_of_false (by simp) nt) fun _ => by rw [ph]; decide
    rw [Part.standingEnd_hdec, Part.setHdec_get]
    rfl
  · rw [Part.unsettledEdge_of_held _ _ free]
    rw [get] at free
    refine hp.edgeLevel y d (Part.sendScnt_hdec _ _) (by simp) (.of_eq (by simp) (by simp)) nt ?_
    rw [ph]
    simpa [HeadDecoder.free, Phase.levels, Classical.or_iff_not_imp_left] using free

theorem HeadsFit.edge_idle (hp : HeadsFit p) (y : System) (d : EdgeDir) (ph : p.hdec[h].phase = .idle)
    (change : (p.hdec[h].sensor y).damped ≠ d.damped) : HeadsFit (p.takeEdge h y d) := by
  have levels := (hp.fits h).levels
  rw [ph] at levels
  have nt : p.hdec[h].phase ≠ .test := by rw [ph]; decide
  have no : p.hdec[h].phase ≠ .off := by rw [ph]; decide
  cases d with
  | falling => exact absurd change (fun c => p.hdec[h].not_falling y levels c)
  | rising =>
    have arr := p.hdec[h].arrival_levels y p.tbase.us levels
    rw [Part.takeEdge_eq, Part.handleEdge_rising ph, if_pos ((Part.atEdge_decoding _ _ _ _).trans (hp.decoding h no nt))]
    refine hp.edgeWrite (h := h) y .rising
      { p.hdec[h].atEdge y .rising p.tbase.us with
        phase := arrival y, suspect := false, dwellStart := some p.tbase.ms }
      (fun g => ?_) (by simp) (.of_eq (by simp) (by simp))
      ((hp.fits h).atEdge_traverse y .rising _ nt arr.2 false rfl arr.1)
      (iff_of_false (Phase.isTraverse_ne arr.2).1 nt) fun _ => no
    rw [Part.leaveIdle_hdec_get, Part.atEdge_hdec_get, if_pos rfl, (Part.atEdge_frame _ _ _ _).2.2.2.2.2.2.1]

theorem HeadsFit.edge_traverse (hp : HeadsFit p) (y : System) (d : EdgeDir) (t : p.hdec[h].phase.isTraverse = true)
    (change : (p.hdec[h].sensor y).damped ≠ d.damped) : HeadsFit (p.takeEdge h y d) := by
  obtain ⟨nt, no, -⟩ := Phase.isTraverse_ne t
  have get := p.atEdge_hdec_get h y d h
  rw [if_pos rfl] at get
  obtain ⟨nx, next, shape, after⟩ := p.hdec[h].traverse_next t y d p.tbase.us (hp.fits h).levels change
  rw [Part.takeEdge_eq, Part.handleEdge_traverse t, if_pos ((Part.atEdge_decoding _ _ _ _).trans (hp.decoding h no nt))]
  obtain rfl | t' := shape
  · rw [Part.traverseEdge_ends _ _ _ next]
    refine hp.edgeWrite (h := h) y d
      { p.hdec[h].atEdge y d p.tbase.us with
        phase := .idle
        suspect := p.hdec[h].suspect || decide (p.hdec[h].faulty (p.atEdge h y d).topo.params y (p.atEdge h y d).tbase.us)
        dwellStart := none, standing := false }
      (fun g => ?_) (by simp) (.of_eq (by simp) (by simp)) ((hp.fits h).atEdge_idle y d _ nt _ after)
      (iff_of_false (by simp) nt) fun _ => no
    rw [Part.endTraverse_hdec_get, (Part.separationReport_frame _ _ _).1, get]
  · have started : (p.hdec[h].atEdge y d p.tbase.us).dwellStart.isSome = true := by
      rw [(HeadDecoder.atEdge_keeps _ y d _).2.2.1, (hp.fits h).dwell, Phase.isDwell_of_traverse t]
    rw [Part.traverseEdge_moves _ _ _ next (Phase.isTraverse_ne t').2.2.1]
    refine hp.edgeWrite (h := h) y d
      { p.hdec[h].atEdge y d p.tbase.us with
        phase := nx
        suspect := p.hdec[h].suspect || decide (p.hdec[h].faulty (p.atEdge h y d).topo.params y (p.atEdge h y d).tbase.us) }
      (fun g => ?_) (by simp) (.of_eq (by simp) (by simp))
      ((hp.fits h).atEdge_traverse y d _ nt t' _ started after) (iff_of_false (Phase.isTraverse_ne t').1 nt) fun _ => no
    rw [(Part.separationReport_frame _ _ _).1, Part.setHdec_get, get]

theorem HeadsFit.edgeAt (hp : HeadsFit p) (h : HeadId) (y : System) (d : EdgeDir) (period : Nat) :
    HeadsFit (p.edgeAt h y d period) := by
  unfold Part.edgeAt
  split
  · exact hp
  · rename_i change
    have hp : HeadsFit (p.setTbase (p.tbase.advanceTo period)) := hp.congr rfl rfl (.of_eq rfl rfl)
    obtain ph | ph | ph | ph | ph := p.hdec[h].phase.cases
    · exact hp.edge_off y d ph
    · exact hp.edge_test y d ph change
    · exact hp.edge_unsettled y d ph
    · exact hp.edge_idle y d ph change
    · exact hp.edge_traverse y d ph change

/-! ### Dwell and recovery -/

theorem HeadsFit.examineDwell (hp : HeadsFit p) (h : HeadId) : HeadsFit (p.examineDwell h) := by
  unfold Part.examineDwell
  split
  · rename_i reached
    refine hp.writeHead h { p.hdec[h] with standing := true } (fun g => ?_) (by simp) (.of_eq (by simp) (by simp))
      ((hp.fits h).setStanding (HeadDecoder.dwellReached_isSome reached)) Iff.rfl (hp.works h)
    rw [Part.record_hdec, Part.setHdec_get]
  · exact hp

theorem HeadsFit.examineAll (hp : HeadsFit p) : HeadsFit p.examineAll :=
  foldl_keeps HeadsFit _ _ (fun _ hq h _ => hq.examineDwell h) p hp

theorem HeadsFit.takeRecovery (hp : HeadsFit p) (h : HeadId) : HeadsFit (p.takeRecovery h) := by
  unfold Part.takeRecovery
  split
  · rename_i k
    obtain ⟨⟨run, serv⟩, off⟩ : (p.running = true ∧ p.supv[h].health.inService = true) ∧ p.hdec[h].phase = .off := by
      simpa using k
    refine hp.writeHead h (p.hdec[h].settleByLevels p.tbase.ms) (p.setHdec_get h · _) rfl (.of_eq rfl rfl)
      (HeadDecoder.fits_settleByLevels _ _ ((hp.fits h).not_standing (by rw [off]; rfl)))
      (iff_of_false (p.hdec[h].settleByLevels_phase _).1 (by rw [off]; decide)) fun _ => ⟨run, ?_, serv⟩
    refine hp.known run h fun u => ?_
    rw [u] at serv
    cases serv
  · exact hp

/-! ### Score events -/

theorem HeadsFit.noSlot (hp : HeadsFit p) (h : HeadId) (serv : p.supv[h].health.inService = true) :
    p.supv[h].restartSlot = none := by
  by_contra k
  rw [hp.restart h k] at serv
  cases serv

theorem Health.ne_unused_of_inService {x : Health} (serv : x.inService = true) : x ≠ .unused := by
  rintro rfl
  cases serv

/-- A score event of a head that is not in TEST (R74, R80). -/
theorem HeadsFit.scoreEvent (hp : HeadsFit p) (now : Word) (h : HeadId) (c : ScoreChange) (t : Trigger)
    (y : Option System) (test : p.hdec[h].phase ≠ .test) : HeadsFit (p.scoreEvent now h c t y) := by
  have k := p.scored_scoreEvent now h c t y
  generalize p.scoreEvent now h c t y = q at k ⊢
  have noSlot (serv : p.supv[h].health.inService = true) (n : Nat)
      (k : (p.supv[h].withScore n).restartSlot ≠ none) : (p.supv[h].withScore n).health = .recovering :=
    absurd (hp.noSlot h serv) k
  have still (serv : p.supv[h].health.inService = true) (q : Part) (hdec : q.hdec = p.hdec)
      (supv : ∀ g : HeadId, q.supv[g] =
        if h = g then p.supv[h].withScore (c.apply p.supv[h].score) else p.supv[g])
      (same : p.SameFrame q)
      (nf : healthAfter p.supv[h].health (c.apply p.supv[h].score) ≠ .failed) : HeadsFit q :=
    hp.writeHealth h _ hdec supv same
      (fun _ => (healthAfter_inService _ _ serv).resolve_right nf) (fun _ => Health.ne_unused_of_inService serv)
      (noSlot serv _)
  cases k with
  | discarded _ => exact hp
  | same serv new eq =>
    refine still serv _ rfl (p.setSupv_get h · _) (.of_eq rfl rfl) ?_
    rw [eq]
    intro f
    rw [f] at serv
    cases serv
  | changed serv new ne nf =>
    exact still serv _ (by simp) (fun g => by rw [Part.record_supv, Part.setSupv_get]) (.of_eq (by simp) (by simp)) nf
  | failed serv new f =>
    have off : HeadsFit (p.setHdec h p.hdec[h].toOff) :=
      hp.writeHead h p.hdec[h].toOff (p.setHdec_get h · _) rfl (.of_eq rfl rfl) (HeadDecoder.fits_toOff _)
        (iff_of_false (by simp [HeadDecoder.toOff]) test) fun k => absurd rfl k
    refine off.writeHealth h (p.supv[h].withScore (c.apply p.supv[h].score)) ?_ (fun g => ?_)
      (.of_eq (by simp [Part.headFails, Part.staleReports]) (by simp [Part.headFails, Part.staleReports]))
      (fun k => ?_) (fun _ => Health.ne_unused_of_inService serv) (noSlot serv _)
    · simp [Part.headFails, Part.headOff, Part.staleReports]
    · rw [(Part.headFails_frame _ _ _).1, Part.record_supv, Part.setSupv_get]
      rfl
    · rw [Part.setHdec_get, if_pos rfl] at k
      exact absurd rfl k

/-! ### Recoveries -/

/-- A head that is neither in service nor unused is in OFF, and may change between such states. -/
theorem HeadsFit.writeHealthOff (hp : HeadsFit p) (h : HeadId) (v : HeadHealth)
    (st : p.supv[h].health = .recovering ∨ p.supv[h].health = .failed) (hdec : q.hdec = p.hdec)
    (supv : ∀ g : HeadId, q.supv[g] = if h = g then v else p.supv[g]) (same : p.SameFrame q)
    (restart : v.restartSlot ≠ none → v.health = .recovering) : HeadsFit q := by
  have off : p.hdec[h].phase = .off := Decidable.by_contra fun k => by
    have serv := (hp.works h k).2.2
    obtain st | st := st <;> rw [st] at serv <;> cases serv
  refine hp.writeHealth h v hdec supv same (fun k => absurd off k) (fun _ => ?_) restart
  obtain st | st := st <;> rw [st] <;> decide

theorem HeadsFit.recoveryDone (hp : HeadsFit p) (now : Word) (h : HeadId) (st : p.supv[h].health = .recovering) :
    HeadsFit (p.recoveryDone now h) :=
  hp.writeHealthOff h _ (.inl st) (Part.recoveryDone_frame p now h).1 (p.recoveryDone_supv_get now h)
    (.of_eq (by simp) (by simp)) fun k => absurd rfl k

theorem HeadsFit.quietCheck (hp : HeadsFit p) (now : Word) (h : HeadId) (st : p.supv[h].health = .recovering) :
    HeadsFit (p.quietCheck now h) := by
  simp only [Part.quietCheck]
  generalize (if quietNow p.hdec[h] p.supv[h] = true then p.supv[h].quiet + 1 else 0) = n
  have counted : HeadsFit (p.setSupv h { p.supv[h] with quiet := n, refTimes := some p.hdec[h].edgeTimes }) :=
    hp.writeHealthOff h _ (.inl st) rfl (p.setSupv_get h · _) (.of_eq rfl rfl) fun _ => st
  split
  · refine counted.recoveryDone now h ?_
    rw [Part.setSupv_get, if_pos rfl]
    exact st
  · exact counted

theorem HeadsFit.classed (hp : HeadsFit p) (h : HeadId) (a b : Amp) : HeadsFit (p.classed h a b) :=
  hp.writeHealth h _ rfl (p.setSupv_get h · _) (.of_eq rfl rfl) (fun k => (hp.works h k).2.2) id (hp.restart h)

/-- The pass stops at no head in TEST (R70). -/
theorem Part.not_test_of_nextScan {n : Nat} (e : p.nextScan n = some h) : p.hdec[h].phase ≠ .test := by
  have k := List.find?_some e
  simp only [Part.scannable, Bool.and_eq_true, decide_eq_true_eq] at k
  exact k.2.2

/-- A score event leaves a head out of TEST that is not in it. -/
theorem Part.scoreEvent_not_test (p : Part) (now : Word) (h g : HeadId) (c : ScoreChange) (t : Trigger)
    (y : Option System) (test : p.hdec[g].phase ≠ .test) : (p.scoreEvent now h c t y).hdec[g].phase ≠ .test := by
  have k := p.scored_scoreEvent now h c t y
  generalize p.scoreEvent now h c t y = q at k ⊢
  cases k with
  | failed _ _ _ =>
    have off : (((p.setSupv h (p.supv[h].withScore (c.apply p.supv[h].score))).record now
        (.head h p.supv[h].health .failed (c.apply p.supv[h].score) t y)).headFails now h).hdec =
        (p.setHdec h p.hdec[h].toOff).hdec := by
      simp [Part.headFails, Part.headOff, Part.staleReports]
    rw [off, Part.setHdec_get]
    split
    · simp [HeadDecoder.toOff]
    · exact test
  | discarded _ => exact test
  | same _ _ _ => exact test
  | changed _ _ _ _ =>
    rw [Part.record_hdec]
    exact test

theorem HeadsFit.scanned (hp : HeadsFit p) (now : Word) (h : HeadId) (a b : Amp) (test : p.hdec[h].phase ≠ .test) :
    HeadsFit (p.scanned now h a b) := by
  refine (Part.scanned_keeps (fun q => HeadsFit q ∧ q.hdec[h].phase ≠ .test) now h (fun q c t y hq => ?_) p a b
    ⟨hp.classed h a b, test⟩).1
  exact ⟨hq.1.scoreEvent now h c t y hq.2, q.scoreEvent_not_test now h h c t y hq.2⟩

theorem HeadsFit.supervisionTick (hp : HeadsFit p) (h : HeadId) (a b : Amp) : HeadsFit (p.supervisionTick h a b) := by
  obtain e | e | ⟨v, -, -, next, e⟩ := p.supervisionTick_cases h a b <;> rw [e]
  · exact hp
  · exact hp.congr (by simp) (by simp) (.of_eq (by simp) (by simp))
  · have scanned := hp.scanned v h a b (Part.not_test_of_nextScan next)
    have supervised : HeadsFit (p.superviseHead v h a b) := by
      rw [Part.superviseHead_eq]
      split
      · rename_i st
        exact scanned.quietCheck v h (p.scanned_health_of_recovering v h a b st)
      · exact scanned
    exact supervised.congr (by simp) (by simp) (.of_eq (by simp) (by simp))

theorem HeadsFit.slowHead (hp : HeadsFit p) (now : Word) (h : HeadId) : HeadsFit (p.slowHead now h) := by
  simp only [Part.slowHead]
  split_ifs with st limit
  · exact hp
  · exact hp.writeHealthOff h _ (.inl (Decidable.of_not_not st)) (Part.restartTimesOut_frame p now h).1
      (p.restartTimesOut_supv_get now h) (.of_eq (by simp) (by simp)) fun k => absurd rfl k
  · exact hp.writeHealthOff h _ (.inl (Decidable.of_not_not st)) rfl (p.setSupv_get h · _) (.of_eq rfl rfl)
      fun _ => Decidable.of_not_not st

theorem HeadsFit.supvSlowTick (hp : HeadsFit p) : HeadsFit p.supvSlowTick := by
  obtain e | ⟨v, -, e⟩ := p.supvSlowTick_cases <;> rw [e]
  · exact hp
  · have kept : HeadsFit (p.setTicks { p.ticks with slowSupv := p.ticks.slowSupv.tail }) :=
      hp.congr rfl rfl (.of_eq rfl rfl)
    split
    · exact foldl_keeps HeadsFit _ _ (fun _ hq h _ => hq.slowHead v h) _ kept
    · exact kept

theorem HeadsFit.acceptRestart (hp : HeadsFit p) (n : SlotId) (h : HeadId) (st : p.supv[h].health = .failed) :
    HeadsFit (p.acceptRestart n h) :=
  hp.writeHealthOff h _ (.inr st) rfl (p.setSupv_get h · _) (.of_eq rfl rfl) fun _ => rfl

theorem HeadsFit.cancelRestart (hp : HeadsFit p) (n : SlotId) : HeadsFit (p.cancelRestart n) := by
  obtain e | ⟨h, slot, e⟩ := p.cancelRestart_cases n <;> rw [e]
  · exact hp
  · have st := hp.restart h (by rw [slot]; exact Option.some_ne_none n)
    exact hp.writeHealthOff h (p.supv[h].endRecovery .failed p.supv[h].score) (.inl st) (by simp)
      (fun g => by rw [Part.record_supv, Part.setSupv_get]) (.of_eq (by simp) (by simp)) fun k => absurd rfl k

end

end Sys2Proof.Machine

/-! SUPPORT. The updates of the generator, of a request and of the mode keep what holds of the heads; O52. -/

namespace Sys2Proof.Machine

open Sys2Proof

section
variable {p q : Part} {h : HeadId}

/-! ### Ends of a test -/

theorem Generator.drivesStep_toIdle (g : Generator) : g.toIdle.drivesStep :=
  Generator.drivesStep_of_stopped (by simp [Generator.toIdle, Generator.powerOn]) rfl rfl

theorem Generator.drivesStep_powerOn (n : Nat) : (Generator.powerOn n).drivesStep :=
  Generator.drivesStep_of_stopped (by simp [Generator.powerOn]) rfl rfl

theorem HeadsFit.testFails (hp : HeadsFit p) (c : TestCheck) (run : p.gen.state = .running)
    (target : p.gen.target = some h) : HeadsFit (p.testFails h c) := by
  refine hp.testEnds h run target p.tbase.ms (fun g => ?_) (by simp) (by simp) ?_ ?_
  · simp only [Part.testFails, Part.sendSupv_hdec, Part.reportTest_frame, Part.record_hdec, Part.leaveTest,
      Part.setHdec_get]
    rfl
  · simp [Part.testFails, Generator.release]
  · simp only [Part.testFails, Part.sendSupv_gen, Part.reportTest_frame, Part.record_gen, Part.leaveTest_frame,
      Part.setGen_gen]
    exact Generator.drivesStep_of_stopped (by simp [Generator.release]) rfl rfl

theorem HeadsFit.testPasses (hp : HeadsFit p) (run : p.gen.state = .running) (target : p.gen.target = some h) :
    HeadsFit (p.testPasses h) := by
  refine hp.testEnds h run target p.tbase.ms (fun g => ?_) (by simp) (by simp) ?_ ?_
  · simp only [Part.testPasses, Part.sendSupv_hdec, Part.reportTest_frame, Part.record_hdec, Part.leaveTest,
      Part.setHdec_get]
    rfl
  · simp [Part.testPasses, Generator.toIdle, Generator.powerOn]
  · simp only [Part.testPasses, Part.sendSupv_gen, Part.reportTest_frame, Part.record_gen, Part.leaveTest_frame,
      Part.setGen_gen]
    exact Generator.drivesStep_of_stopped (by simp [Generator.toIdle, Generator.powerOn]) rfl rfl

theorem HeadsFit.testAborts (hp : HeadsFit p) (run : p.gen.state = .running) (target : p.gen.target = some h) :
    HeadsFit (p.testAborts h) := by
  refine hp.testEnds h run target p.tbase.ms (fun g => ?_) (by simp) (by simp) ?_ ?_
  · simp only [Part.testAborts, Part.reportTest_frame, Part.disturbAdjacent_hdec, Part.record_hdec, Part.leaveTest,
      Part.setHdec_get]
    rfl
  · simp [Part.testAborts, Generator.toIdle, Generator.powerOn]
  · simp only [Part.testAborts, Part.reportTest_frame, Part.disturbAdjacent_gen, Part.record_gen, Part.leaveTest_frame,
      Part.setGen_gen]
    exact p.gen.drivesStep_toIdle

theorem HeadsFit.cancelTest (hp : HeadsFit p) : HeadsFit p.cancelTest := by
  simp only [Part.cancelTest]
  split
  · exact hp
  · rename_i h target
    split
    · rename_i run
      refine hp.testEnds h run target p.tbase.ms (fun g => ?_) (by simp) (by simp) ?_ ?_
      · simp only [Part.record_hdec, Part.leaveTest, Part.setHdec_get]
        rfl
      · simp [Generator.release]
      · simp only [Part.record_gen, Part.leaveTest_frame, Part.setGen_gen]
        exact Generator.drivesStep_of_stopped (by simp [Generator.release]) rfl rfl
    · exact hp

/-! ### The release time -/

/-- A generator that runs no test is replaced by one that runs none. -/
theorem HeadsFit.stopGen (hp : HeadsFit p) (before : p.gen.state ≠ .running) (hdec : q.hdec = p.hdec)
    (supv : q.supv = p.supv) (topo : q.topo = p.topo) (after : q.gen.state ≠ .running) (drive : q.gen.drivesStep) :
    HeadsFit q :=
  hp.writeGen hdec supv (by rw [topo]) (by rw [topo]) (iff_of_false after before) (fun k => absurd k before) drive

theorem HeadsFit.releaseAborts (hp : HeadsFit p) (c : TestCheck) (st : p.gen.state ≠ .running) :
    HeadsFit (p.releaseAborts h c) := by
  have gen : (p.releaseAborts h c).gen = p.gen.toIdle := by simp [Part.releaseAborts]
  exact hp.stopGen st (by simp) (by simp) (by simp) (by rw [gen]; simp [Generator.toIdle, Generator.powerOn])
    (by rw [gen]; exact p.gen.drivesStep_toIdle)

theorem HeadsFit.releaseTimeEnd (hp : HeadsFit p) : HeadsFit p.releaseTimeEnd := by
  unfold Part.releaseTimeEnd
  split
  · exact hp
  · split
    · rename_i k
      have st : p.gen.state ≠ .running := by rw [k.2.1]; decide
      unfold Part.releaseEnds
      split
      · exact hp.releaseAborts .notIdle st
      · exact hp.stopGen st rfl rfl rfl (by simp [Generator.toIdle, Generator.powerOn]) p.gen.drivesStep_toIdle
    · exact hp

theorem HeadsFit.lowerPending (hp : HeadsFit p) : HeadsFit p.lowerPending := by
  unfold Part.lowerPending
  split
  · exact hp.congr rfl rfl ⟨rfl, rfl, rfl⟩
  · exact hp

/-! ### Steps -/

/-- The next step of the test that runs begins (R95). -/
theorem HeadsFit.beginStep (hp : HeadsFit p) (run : p.gen.state = .running) (k : Nat) (first : 1 ≤ k) (last : k ≤ 4)
    (ms : Word) (t : Nat) : HeadsFit (p.setGen (p.gen.beginStep k ms t)) :=
  hp.writeGen rfl rfl rfl rfl Iff.rfl (fun _ => rfl) (hp.drive.beginStep run k first last ms t)

/-- The tick in hand is taken, and nothing else of the generator. -/
theorem HeadsFit.tickTaken (hp : HeadsFit p) : HeadsFit (p.setGen p.gen.tickTaken) :=
  hp.congr rfl rfl ⟨rfl, rfl, rfl⟩

theorem HeadsFit.patternStart (hp : HeadsFit p) : HeadsFit p.patternStart := by
  unfold Part.patternStart
  split
  · rename_i k
    exact hp.tickTaken.beginStep k.2.1 1 le_rfl (by decide) _ _
  · exact hp

theorem HeadsFit.tickWithinStep (hp : HeadsFit p) : HeadsFit p.tickWithinStep := by
  obtain ⟨l, e⟩ := p.tickWithinStep_keeps
  rw [e]
  exact hp.congr rfl rfl ⟨rfl, rfl, rfl⟩

theorem HeadsFit.followWindowClose (hp : HeadsFit p) : HeadsFit p.followWindowClose := by
  unfold Part.followWindowClose
  split
  · exact hp.tickWithinStep
  · exact hp

theorem HeadsFit.midStepSample (hp : HeadsFit p) : HeadsFit p.midStepSample := by
  unfold Part.midStepSample
  split
  · exact hp.tickWithinStep
  · exact hp

theorem HeadsFit.stepEnds (hp : HeadsFit p) (run : p.gen.state = .running) (target : p.gen.target = some h) :
    HeadsFit (p.stepEnds h) := by
  simp only [Part.stepEnds]
  split_ifs with missing step passes
  · exact hp.testFails _ run target
  · exact hp.beginStep run _ (by omega) (by omega) _ _
  · exact hp.testPasses run target
  · exact hp.testFails _ run target

theorem HeadsFit.stepDeadline (hp : HeadsFit p) : HeadsFit p.stepDeadline := by
  unfold Part.stepDeadline
  split
  · exact hp
  · rename_i h target
    split
    · rename_i k
      exact hp.tickTaken.stepEnds k.2.1 target
    · exact hp

theorem HeadsFit.takePendingTick (hp : HeadsFit p) : HeadsFit p.takePendingTick := by
  unfold Part.takePendingTick
  split
  · exact hp.lowerPending.releaseTimeEnd
  · exact hp.patternStart.midStepSample.followWindowClose.stepDeadline

/-! ### Copies, answers and the ms tick -/

theorem HeadsFit.setSent (hp : HeadsFit p) (m : InFlight) : HeadsFit (p.setSent m) := hp.congr rfl rfl (.of_eq rfl rfl)

theorem HeadsFit.judgeCopy (hp : HeadsFit p) (c : EdgeCopy) : HeadsFit (p.judgeCopy c) := by
  have k := p.judged_judgeCopy c
  generalize p.judgeCopy c = q at k ⊢
  cases k with
  | ignored _ => exact hp
  | expected _ _ _ => exact hp.congr rfl rfl ⟨rfl, rfl, rfl⟩
  | aborts target st _ => exact hp.testAborts st target
  | releasedA _ _ _ _ _ => exact hp.congr rfl rfl ⟨rfl, rfl, rfl⟩
  | releasedB _ _ _ _ _ => exact hp.congr rfl rfl ⟨rfl, rfl, rfl⟩
  | releaseAborts _ st _ => exact hp.releaseAborts _ (by rw [st]; decide)

theorem HeadsFit.takeCopy (hp : HeadsFit p) : HeadsFit p.takeCopy := by
  obtain ⟨-, e⟩ | ⟨c, rest, -, e⟩ := p.takeCopy_cases <;> rw [e]
  · exact hp
  · exact (hp.setSent _).judgeCopy c

theorem HeadsFit.takeAnswer (hp : HeadsFit p) : HeadsFit p.takeAnswer := by
  unfold Part.takeAnswer
  split
  · exact hp
  · unfold Part.judgeAnswer
    split
    · exact hp.setSent _
    · rename_i target
      split_ifs with k damped
      · exact hp.setSent _
      · exact (hp.setSent _).testFails _ k.1 target
      · exact hp.setSent _

/-- A tick that is given leaves what the generator runs and drives. -/
theorem Generator.giveTick_core (g : Generator) (ms : Word) (t : Nat) : (g.giveTick ms t).core = g.core := by
  unfold Generator.giveTick
  split
  · rfl
  · rfl
  · split <;> rfl

theorem HeadsFit.giveMsTick (hp : HeadsFit p) : HeadsFit p.giveMsTick := by
  have get (h : HeadId) : p.giveMsTick.hdec[h] = p.hdec[h].older := by simp [Part.giveMsTick]
  have core : p.giveMsTick.gen.core = p.gen.core := Generator.giveTick_core _ _ _
  obtain ⟨state, target, -⟩ := (p.gen.core_eq_iff _).mp core
  refine ⟨fun h => ?_, fun h => ?_, fun h => ?_, fun k => ?_, hp.known, hp.restart, hp.drive.congr core⟩
  · rw [get]
    exact (hp.fits h).older
  · rw [get]
    exact hp.works h
  · rw [get, state, target]
    exact hp.tested h
  · obtain ⟨h, tg, ph⟩ := hp.tests (state ▸ k)
    exact ⟨h, target ▸ tg, by rw [get]; exact ph⟩

theorem HeadsFit.msTick (hp : HeadsFit p) : HeadsFit p.msTick := hp.examineAll.takePendingTick.giveMsTick

/-! ### Requests -/

/-- A test that is accepted has its head in TEST, and no other head (R19, R94). -/
theorem HeadsFit.acceptTest (hp : HeadsFit p) (n : SlotId) (h : HeadId) (ok : p.testRefusal h = none) :
    HeadsFit (p.acceptTest n h) := by
  obtain ⟨used, serv, idle, -, -, st, -⟩ := (p.testRefusal_eq_none h).mp ok
  have get (g : HeadId) : (p.acceptTest n h).hdec[g] = if h = g then p.hdec[h].enterTest else p.hdec[g] := by
    rw [Part.acceptTest, Part.setHdec_get]
    rfl
  have works := hp.works h (by rw [idle]; decide)
  refine ⟨fun g => ?_, fun g => ?_, fun g k => ⟨rfl, ?_⟩, fun _ => ⟨h, rfl, by rw [get, if_pos rfl]; rfl⟩, hp.known,
    hp.restart, Generator.drivesStep_accept _ _ _ _⟩
  · rw [get]
    split
    · exact (hp.fits h).enterTest idle
    · exact hp.fits g
  · rw [get]
    split
    · rename_i e
      exact fun _ => e ▸ works
    · exact hp.works g
  · rw [get] at k
    split at k
    · rename_i e
      rw [← e]
      rfl
    · have run := (hp.tested g k).1
      rw [st] at run
      cases run

theorem HeadsFit.request (hp : HeadsFit p) (n : SlotId) (w : Word) : HeadsFit (p.request n w) := by
  have k := p.requested_request n w
  generalize p.request n w = q at k ⊢
  cases k with
  | restart h _ _ _ ok =>
    exact (hp.acceptRestart n h ((p.restartRefusal_eq_none h).mp ok)).congr (by simp) (by simp)
      (.of_eq (by simp) (by simp))
  | test h _ _ _ ok => exact (hp.acceptTest n h ok).congr (by simp) (by simp) (.of_eq (by simp) (by simp))
  | cancel m _ _ _ _ =>
    have work : HeadsFit (p.cancelWork m) := by
      unfold Part.cancelWork
      split_ifs
      · exact hp.congr (by simp) (by simp) (.of_eq (by simp) (by simp))
      · exact hp.cancelRestart m
      · exact hp.cancelTest
    exact work.congr (by simp) (by simp) (.of_eq (by simp) (by simp))
  | _ => exact hp.congr (by simp) (by simp) (.of_eq (by simp) (by simp))

/-! ### Commit, HALTED and power-on -/

/-- Outside RUNNING every head is in OFF and no test runs. -/
theorem HeadsFit.resting (hp : HeadsFit p) (mode : p.topo.mode ≠ .running) :
    (∀ h : HeadId, p.hdec[h].phase = .off) ∧ p.gen.state ≠ .running := by
  have off (h : HeadId) : p.hdec[h].phase = .off := Decidable.by_contra fun k => by
    exact mode (by simpa [Part.running] using (hp.works h k).1)
  refine ⟨off, fun k => ?_⟩
  obtain ⟨h, -, ph⟩ := hp.tests k
  rw [off h] at ph
  cases ph

/-- An accepted commit places the used heads by their levels (R24, R90). -/
theorem HeadsFit.committed (hp : HeadsFit p) (unc : p.topo.mode = .unconfigured) (ms : Word)
    (hdec : ∀ h : HeadId, q.hdec[h] = p.hdec[h].atCommit (q.used h) ms)
    (supv : ∀ h : HeadId, q.supv[h] = HeadHealth.atCommit (q.used h)) (gen : q.gen = p.gen)
    (mode : q.topo.mode = .running) : HeadsFit q := by
  have still := (hp.resting (by rw [unc]; decide)).2
  have run : q.running = true := by simp [Part.running, mode]
  have placed (x : HeadDecoder) (u : Bool) : (x.atCommit u ms).Fits ∧ (x.atCommit u ms).phase ≠ .test ∧
      ((x.atCommit u ms).phase ≠ .off → u = true) := by
    cases u
    · exact ⟨x.fits_toOff, by simp [HeadDecoder.atCommit, HeadDecoder.toOff], fun k => absurd rfl k⟩
    · exact ⟨x.toOff.fits_settleByLevels ms rfl, (x.toOff.settleByLevels_phase ms).1, fun _ => rfl⟩
  refine ⟨fun h => ?_, fun h k => ?_, fun h k => ?_, fun k => ?_, fun _ h k => ?_, fun h k => ?_, gen ▸ hp.drive⟩
  · rw [hdec]
    exact (placed _ _).1
  · rw [hdec] at k
    have used := (placed _ _).2.2 k
    refine ⟨run, used, ?_⟩
    rw [supv, used]
    rfl
  · rw [hdec] at k
    exact absurd k (placed _ _).2.1
  · rw [gen] at k
    exact absurd k still
  · rw [supv] at k
    by_contra unused
    rw [Bool.eq_false_of_not_eq_true unused] at k
    exact k rfl
  · rw [supv] at k
    exact absurd (HeadHealth.atCommit_restartSlot _) k

theorem HeadsFit.topologyWrite (hp : HeadsFit p) (unc : p.topo.mode = .unconfigured) (aps : BitVec 4) (i : Place)
    (l : Lanes) (w : Word) : HeadsFit (p.topologyWrite aps i l w) := by
  have merged : HeadsFit (p.merged i l w) := hp.congr rfl rfl ⟨rfl, rfl, rfl⟩
  obtain e | ⟨-, -, e⟩ | ⟨-, -, e⟩ := p.topologyWrite_cases aps i l w <;> rw [e]
  · exact merged
  · exact merged.committed unc _ (Part.acceptCommit_hdec_get _ _) (Part.acceptCommit_supv_get _ _) rfl rfl
  · exact merged.congr rfl rfl ⟨rfl, rfl, rfl⟩

/-- At a halt and at power-on every head is in OFF and the generator is as at power-on (R25, R106). -/
theorem headsFit_of_off (fits : ∀ h : HeadId, p.hdec[h].Fits) (off : ∀ h : HeadId, p.hdec[h].phase = .off)
    (gen : ∃ n, p.gen = Generator.powerOn n) (mode : p.topo.mode ≠ .running)
    (restart : ∀ h : HeadId, p.supv[h].restartSlot ≠ none → p.supv[h].health = .recovering) : HeadsFit p := by
  obtain ⟨n, gen⟩ := gen
  refine ⟨fits, fun h k => absurd (off h) k, fun h k => ?_, fun k => ?_, fun k => ?_, restart,
    gen ▸ Generator.drivesStep_powerOn n⟩
  · rw [off h] at k
    cases k
  · rw [gen] at k
    cases k
  · exact absurd (by simpa [Part.running] using k) mode

theorem HeadsFit.halt (hp : HeadsFit p) (now : Word) (sum : BitVec 16) : HeadsFit (p.halt now sum) := by
  refine headsFit_of_off (fun h => ?_) (fun h => ?_) ⟨p.gen.serial, rfl⟩ (fun k => by cases k) hp.restart <;>
    rw [Part.halt_hdec_get]
  · exact HeadDecoder.fits_toOff _
  · rfl

theorem HeadsFit.topoSlowTick (hp : HeadsFit p) : HeadsFit p.topoSlowTick := by
  obtain ⟨-, e⟩ | ⟨v, rest, -, e⟩ := p.topoSlowTick_cases <;> rw [e]
  · exact hp
  · have kept : HeadsFit (p.setTicks { p.ticks with slowTopo := rest }) := hp.congr rfl rfl (.of_eq rfl rfl)
    split
    · exact kept.halt v _
    · exact kept

theorem headsFit_powerOn (la lb : BitVec 32) (n : Nat) : HeadsFit (Part.powerOn la lb n) := by
  refine headsFit_of_off (fun h => ?_) (fun h => ?_) ⟨n, rfl⟩ (fun k => by cases k) fun h k => ?_
  · rw [Part.powerOn_hdec_get]
    exact HeadDecoder.fits_powerOn _ _
  · rw [Part.powerOn_hdec_get]
    rfl
  · rw [Part.powerOn_supv_get] at k
    exact absurd rfl k

/-! ### Every update -/

/-- Every update of the blocks keeps it: those of HDEC, SUPV, TGEN and TOPO one by one, the others by their frame. -/
theorem HeadsFit.update {aps : BitVec 4} (hp : HeadsFit p) (u : p.Update aps q) : HeadsFit q := by
  cases u with
  | edge h y d period => exact hp.edgeAt h y d period
  | dwell h => exact hp.examineDwell h
  | recovery h => exact (hp.setSent _ : HeadsFit (p.tookRecovered h)).takeRecovery h
  | supervisionTick h a b => exact hp.supervisionTick h a b
  | slowTick => exact hp.supvSlowTick
  | staleTestReport m => exact hp.congr rfl rfl ⟨rfl, rfl, rfl⟩
  | testReportDropped m => exact hp.congr rfl rfl ⟨rfl, rfl, rfl⟩
  | report m h c t _ ph => exact (hp.setSent _ : HeadsFit (p.tookSupv m)).scoreEvent _ h c t none ph
  | testReport m h c t _ ph =>
    exact (hp.congr rfl rfl ⟨rfl, rfl, rfl⟩ : HeadsFit (p.tookSupv m).reportTaken).scoreEvent _ h c t none ph
  | patternStart => exact hp.patternStart
  | followWindowClose => exact hp.followWindowClose
  | stepDeadline => exact hp.stepDeadline
  | midStepSample => exact hp.midStepSample
  | answer => exact hp.takeAnswer
  | copy => exact hp.takeCopy
  | releaseTimeEnd => exact hp.releaseTimeEnd
  | recheck => exact hp.topoSlowTick
  | corruption i b =>
    unfold Part.corruptShadow
    split
    · exact hp.congr rfl rfl ⟨rfl, rfl, rfl⟩
    · exact hp
  | request n w => exact hp.request n w
  | topologyWrite i l w unc => exact hp.topologyWrite unc _ i l w
  | msTick => exact hp.msTick
  | _ => exact hp.congr (by simp) (by simp) (.of_eq (by simp) (by simp))

end

/-- Settles O52: edges by the table of R7, score events away from TEST, the ends of a test by the levels; the other
updates leave the heads and what they lean on. -/
theorem headsInvariant : Obligations.HeadsInvariant := by
  intro s t hs e up
  rw [headsOk_iff]
  exact step_keeps_up HeadsFit (fun _ _ _ hp u => hp.update u) (fun p j hp => hp.congr rfl rfl (.of_eq rfl rfl))
    headsFit_powerOn s t (fun k => (headsOk_iff _).mp (hs k)) e up

end Sys2Proof.Machine

/-! SUPPORT. What an edge sends and records, and the statements about edges. -/

namespace Sys2Proof.Machine

open Sys2Proof

/-! ### What is sent and recorded -/

section
variable (p : Part) (h : HeadId)

theorem Part.separationReport_sent (f : Bool) :
    (p.separationReport h f).sent =
      { p.sent with supv := p.sent.supv ++ if f = true then [.separationFault h] else [] } := by
  unfold Part.separationReport
  split
  · rfl
  · simp

theorem Part.handOn_sent (o : PassageOutcome × Direction) :
    (p.handOn h o).sent =
      { p.sent with
        scnt := p.sent.scnt ++
          match o.1 with
          | .counted => [.passage h o.2]
          | .suspect => [.suspectEnd h]
          | _ => []
        supv := p.sent.supv ++
          match o.1 with
          | .counted => [.cleanPassage h]
          | .glitch => [.glitch h]
          | _ => [] } := by
  unfold Part.handOn
  cases o.1 <;> simp

theorem Part.offEdge_sent :
    (p.offEdge h).sent =
      { p.sent with
        scnt := p.sent.scnt ++ if p.topo.mode = .running ∧ p.used h = true then [.movement h] else [] } := by
  unfold Part.offEdge
  simp only [Bool.and_eq_true, Part.running_iff]
  split <;> simp

theorem Part.Counts.standingEnd_jrnl {p : Part} (c : p.Counts) (now : Word) (h : HeadId) (was : Bool) :
    (p.standingEnd now h was).jrnl = if was = true then p.journalAfter now (.standing h true) else p.jrnl := by
  unfold Part.standingEnd
  split
  · exact c.record_jrnl _ _
  · rfl

theorem Part.Counts.standingEnd {p : Part} (c : p.Counts) (now : Word) (h : HeadId) (was : Bool) :
    (p.standingEnd now h was).Counts := by
  unfold Part.standingEnd
  split
  · exact c.record _ _
  · exact c

theorem Part.Counts.passageRecord_jrnl {p : Part} (c : p.Counts) (h : HeadId) (o : PassageOutcome × Direction) :
    (p.passageRecord h o).jrnl =
      if p.topo.params.passageRecords = true then p.journalAfter p.tbase.ms (.passage h o.2 o.1) else p.jrnl := by
  unfold Part.passageRecord
  split
  · exact c.record_jrnl _ _
  · rfl

/-- The records of the end of a traverse: STANDING end if the head stood, PASSAGE if passages are recorded (R11, R14). -/
theorem Part.Counts.endTraverse_jrnl {p : Part} (c : p.Counts) (h : HeadId) (b : Bool)
    (o : PassageOutcome × Direction) :
    (p.endTraverse h b o).jrnl =
      (if p.topo.params.passageRecords = true then [.passage h o.2 o.1] else []).foldl
        (fun j d => j.take p.topo.params.ringCode p.tbase.ms d)
        ((if p.hdec[h].standing = true then [.standing h true] else []).foldl
          (fun j d => j.take p.topo.params.ringCode p.tbase.ms d) p.jrnl) := by
  have c' : (p.setHdec h
      { p.hdec[h] with phase := .idle, suspect := b, dwellStart := none, standing := false }).Counts := c.congr rfl rfl
  rw [Part.endTraverse, (Part.handOn_frame _ _ _).2.2.2.2.2.1, (c'.standingEnd _ _ _).passageRecord_jrnl,
    Part.journalAfter, c'.standingEnd_jrnl]
  simp only [Part.standingEnd_topo, Part.standingEnd_tbase, Part.setHdec_topo, Part.setHdec_tbase, Part.journalAfter,
    Part.setHdec_jrnl]
  split_ifs <;> rfl

theorem Part.endTraverse_sent (b : Bool) (o : PassageOutcome × Direction) :
    (p.endTraverse h b o).sent = (p.handOn h o).sent := by
  rw [Part.endTraverse, Part.handOn_sent, Part.handOn_sent]
  simp

end

/-! ### Time and level -/

/-- What the level update writes: the head's record and the copies in flight. -/
theorem Part.atEdge_eq (p : Part) (h : HeadId) (y : System) (d : EdgeDir) :
    p.atEdge h y d =
      (p.setHdec h (p.hdec[h].atEdge y d p.tbase.us)).setSent
        { p.sent with copies := p.sent.copies ++ p.edgeCopies h y d } := by
  rw [← Part.atEdge_sent]
  simp only [Part.atEdge, Part.copyEdge]
  split <;> rfl

/-- An edge later in the millisecond, in every mode, phase and health (R1, R2, R165). -/
theorem Part.edgeAt_of_change (p : Part) (h : HeadId) (y : System) (d : EdgeDir) (period : Nat)
    (change : (p.hdec[h].sensor y).damped ≠ d.damped) :
    p.edgeAt h y d period = (p.setTbase (p.tbase.advanceTo period)).takeEdge h y d := if_neg change

theorem HeadDecoder.sensor_congr {x z : HeadDecoder} (a : x.sensorA = z.sensorA) (b : x.sensorB = z.sensorB)
    (y : System) : x.sensor y = z.sensor y := by
  cases y
  · exact a
  · exact b

theorem Part.takeEdge_sensor (p : Part) (h : HeadId) (y : System) (d : EdgeDir) :
    (p.takeEdge h y d).hdec[h].sensor y = { damped := d.damped, edgeTime := p.tbase.us, edgeAge := 0 } ∧
      (p.takeEdge h y d).hdec[h].sensor y.other = p.hdec[h].sensor y.other ∧
      ∀ g : HeadId, g ≠ h → (p.takeEdge h y d).hdec[g] = p.hdec[g] := by
  have k := Part.keepsSensors_handleEdge (p.atEdge h y d) h p.hdec[h] y d
  have get := p.atEdge_hdec_get h y d h
  rw [if_pos rfl] at get
  rw [Part.takeEdge_eq]
  refine ⟨?_, ?_, fun g ne => ?_⟩
  · rw [HeadDecoder.sensor_congr k.sensorA k.sensorB, get, HeadDecoder.atEdge_sensor]
  · rw [HeadDecoder.sensor_congr k.sensorA k.sensorB, get, HeadDecoder.atEdge_other]
  · rw [k.other g ne, Part.atEdge_hdec_get, if_neg (Ne.symm ne)]

/-- Settles O4: the level, the stamp and the age are written before the phase is looked at, and no phase writes them. -/
theorem edgeUpdatesLevelTimeAndAge : Obligations.EdgeUpdatesLevelTimeAndAge := by
  intro h y d period s up
  refine ⟨fun change le lt => ?_, fun same => ?_⟩
  · refine ⟨s.withPart (s.part.edgeAt h y d period), State.powered_up _ _ up, ?_⟩
    rw [State.withPart_part, Part.edgeAt_of_change _ _ _ _ _ change]
    obtain ⟨sensor, other, heads⟩ := Part.takeEdge_sensor (s.part.setTbase (s.part.tbase.advanceTo period)) h y d
    have tbase := (Part.takeEdge_frame (s.part.setTbase (s.part.tbase.advanceTo period)) h y d).2.2.2.2.1
    refine ⟨?_, ?_, other, heads, by simp⟩
    · rw [tbase]
      exact Timebase.advanceTo_of_le le lt
    · rw [sensor, tbase]
  · show s.powered (s.withPart (s.part.edgeAt h y d period)) = _
    rw [Part.edgeAt_of_same _ _ _ _ _ same]
    exact State.powered_up _ _ up

/-! ### Traverses -/

/-- An edge now, at a head in some phase. -/
theorem exec_edge_now (h : HeadId) (y : System) (d : EdgeDir) (s : State) (up : s.up)
    (change : (s.part.hdec[h].sensor y).damped ≠ d.damped) :
    exec (.edge h y d s.part.tbase.period) s =
      .next (s.withPart ((s.part.atEdge h y d).handleEdge h s.part.hdec[h] y d)) := by
  show s.powered (s.withPart (s.part.edgeAt h y d s.part.tbase.period)) = _
  rw [Part.edgeAt_now _ _ _ _ change, Part.takeEdge_eq]
  exact State.powered_up _ _ up

theorem HeadDecoder.atEdge_eq (x : HeadDecoder) (y : System) (d : EdgeDir) (us : Word) :
    x.atEdge y d us = x.setSensor y { damped := d.damped, edgeTime := us, edgeAge := 0 } := rfl

/-- Settles O5: each row is a move of R7's table that stays in the traverse. -/
theorem edgeMovesTraverse : Obligations.EdgeMovesTraverse := by
  intro ph nx y d row h s up dec phase change _
  obtain ⟨t, next, ne⟩ : ph.isTraverse = true ∧ traverseNext ph y d = some nx ∧ nx ≠ .idle := by
    simp only [List.mem_cons, Prod.mk.injEq, List.not_mem_nil, or_false] at row
    obtain ⟨rfl, rfl, rfl, rfl⟩ | ⟨rfl, rfl, rfl, rfl⟩ | ⟨rfl, rfl, rfl, rfl⟩ | ⟨rfl, rfl, rfl, rfl⟩ |
      ⟨rfl, rfl, rfl, rfl⟩ | ⟨rfl, rfl, rfl, rfl⟩ | ⟨rfl, rfl, rfl, rfl⟩ | ⟨rfl, rfl, rfl, rfl⟩ := row <;>
      exact ⟨rfl, rfl, by decide⟩
  rw [← phase] at t next
  have nt := (Phase.isTraverse_ne t).1
  have get := s.part.atEdge_hdec_get h y d h
  rw [if_pos rfl] at get
  refine ⟨_, exec_edge_now h y d s up change, ?_⟩
  rw [State.withPart_part, Part.handleEdge_traverse t, if_pos ((Part.atEdge_decoding _ _ _ _).trans dec),
    Part.traverseEdge_moves _ _ _ next ne]
  refine ⟨?_, ?_, fun g ne => ?_, by simp⟩
  · rw [(Part.separationReport_frame _ _ _).1, Part.setHdec_get, if_pos rfl, get]
    simp [HeadDecoder.atEdge_eq]
  · rw [Part.separationReport_sent, Part.setHdec_sent, Part.atEdge_sent, Part.edgeCopies_of_ne_test _ _ _ _ nt]
    simp only [Part.atEdge_frame, Bool.and_eq_true, decide_eq_true_eq, Bool.not_eq_true', and_comm]
  · rw [(Part.separationReport_frame _ _ _).1, Part.setHdec_get, if_neg (Ne.symm ne), Part.atEdge_hdec_get,
      if_neg (Ne.symm ne)]

/-- Settles O6: each row is a move of R7's table to IDLE; the outcome decides the receivers. -/
theorem edgeEndsTraverse : Obligations.EdgeEndsTraverse := by
  intro ph y row h s k dec phase damped _ fault marked dir out hfault hmarked hdir hout
  obtain ⟨t, next, arrives⟩ : ph.isTraverse = true ∧ traverseNext ph y .falling = some .idle ∧
      ph.arrivalDirection = if ph = .arrA ∨ ph = .depA then .aToB else .bToA := by
    simp only [List.mem_cons, Prod.mk.injEq, List.not_mem_nil, or_false] at row
    obtain ⟨rfl, rfl⟩ | ⟨rfl, rfl⟩ | ⟨rfl, rfl⟩ | ⟨rfl, rfl⟩ := row <;> exact ⟨rfl, rfl, by decide⟩
  rw [← hdir] at arrives
  rw [← phase] at t next
  have nt := (Phase.isTraverse_ne t).1
  have change : (s.part.hdec[h].sensor y).damped ≠ EdgeDir.falling.damped := by
    rw [damped]
    decide
  have get := s.part.atEdge_hdec_get h y .falling h
  rw [if_pos rfl] at get
  have keeps := HeadDecoder.atEdge_keeps s.part.hdec[h] y .falling s.part.tbase.us
  have ends : endOutcome s.part.topo.params.minPulse s.part.hdec[h] s.part.hdec[h].phase marked y s.part.tbase.us =
      (out, dir) := by
    rw [endOutcome_eq, phase, arrives, hout]
  have c : (s.part.atEdge h y .falling).Counts := k.counts.congr (by simp) (by simp)
  refine ⟨_, exec_edge_now h y .falling s k.1 change, ?_⟩
  rw [State.withPart_part, Part.handleEdge_traverse t, if_pos ((Part.atEdge_decoding _ _ _ _).trans dec),
    Part.traverseEdge_ends _ _ _ next]
  simp only [Part.atEdge_frame, HeadDecoder.faulty, ← hfault, ← hmarked, ends]
  refine ⟨?_, ?_, ?_, fun g ne => ?_, by simp⟩
  · rw [Part.endTraverse_hdec_get, if_pos rfl, (Part.separationReport_frame _ _ _).1, get]
    rfl
  · rw [Part.endTraverse_sent, Part.handOn_sent, Part.separationReport_sent, Part.atEdge_sent,
      Part.edgeCopies_of_ne_test _ _ _ _ nt]
    cases out <;> simp
  · rw [Part.Counts.endTraverse_jrnl (c.congr (by simp) (by simp))]
    simp [get]
  · rw [Part.endTraverse_hdec_get, if_neg (Ne.symm ne), (Part.separationReport_frame _ _ _).1, Part.atEdge_hdec_get,
      if_neg (Ne.symm ne)]

/-! ### IDLE, UNSETTLED, OFF and TEST -/

/-- Settles O7: one equation of `handleEdge` for each of the three phases. -/
theorem edgeInIdleUnsettledOrOff : Obligations.EdgeInIdleUnsettledOrOff := by
  intro h y d s x up change _ hx
  have get := s.part.atEdge_hdec_get h y d h
  rw [if_pos rfl, HeadDecoder.atEdge_eq, ← hx] at get
  have keeps : x.phase = s.part.hdec[h].phase ∧ x.standing = s.part.hdec[h].standing := by
    rw [hx]
    exact ⟨(HeadDecoder.setSensor_keeps _ _ _).1, (HeadDecoder.setSensor_keeps _ _ _).2.2.2.1⟩
  have exec_ := exec_edge_now h y d s up change
  refine ⟨fun dec phase rising => ?idle, fun dec active phase => ?unsettled, fun phase => ?off⟩
  case idle =>
    subst rising
    have nt : s.part.hdec[h].phase ≠ .test := by rw [phase]; decide
    rw [exec_, Part.handleEdge_rising phase, if_pos ((Part.atEdge_decoding _ _ _ _).trans dec), Part.leaveIdle, get,
      Part.atEdge_eq, Part.edgeCopies_of_ne_test _ _ _ _ nt]
    simp only [Part.sendScnt, Part.setSent, Part.setHdec, Vector.set_set]
    cases y <;> rfl
  case unsettled =>
    have nt : s.part.hdec[h].phase ≠ .test := by rw [phase]; decide
    have notice : (s.part.atEdge h y d).unsettledNotice h =
        if s.part.gen.state = .releasing ∧ s.part.gen.target = some h then .movement h else .unsettledChange h := by
      simp [Part.unsettledNotice, Part.allowance]
    have c : (s.part.atEdge h y d).Counts :=
      ⟨by simpa [Part.running] using ((s.part.decoding_iff h).mp dec).1, by simpa using active⟩
    refine ⟨_, exec_, ?_⟩
    rw [State.withPart_part, Part.handleEdge_unsettled phase, if_pos ((Part.atEdge_decoding _ _ _ _).trans dec)]
    by_cases free : x.sensorA.damped = false ∧ x.sensorB.damped = false
    · have free' : (s.part.atEdge h y d).hdec[h].free = true := by
        rw [get]
        simpa [HeadDecoder.free] using free
      rw [Part.unsettledEdge_of_free _ _ free', notice]
      refine ⟨?_, ?_, fun g ne => ?_, ?_, by simp⟩
      · rw [Part.standingEnd_hdec, Part.setHdec_get, if_pos rfl, if_pos free, get]
      · rw [Part.standingEnd_sent, Part.setHdec_sent, Part.sendScnt_sent, Part.atEdge_sent,
          Part.edgeCopies_of_ne_test _ _ _ _ nt]
        split_ifs <;> rfl
      · rw [Part.standingEnd_hdec, Part.setHdec_get, if_neg (Ne.symm ne), Part.sendScnt_hdec, Part.atEdge_hdec_get,
          if_neg (Ne.symm ne)]
      · refine (Part.Counts.standingEnd_jrnl ?_ _ _ _).trans ?_
        · exact c.congr rfl rfl
        · rw [get, keeps.2]
          simp [free, Part.journalAfter]
    · have held : ¬ (s.part.atEdge h y d).hdec[h].free = true := by
        rw [get]
        simpa [HeadDecoder.free] using free
      rw [Part.unsettledEdge_of_held _ _ held, notice]
      refine ⟨?_, ?_, fun g ne => ?_, ?_, by simp⟩
      · rw [Part.sendScnt_hdec, get, if_neg free]
      · rw [Part.sendScnt_sent, Part.atEdge_sent, Part.edgeCopies_of_ne_test _ _ _ _ nt]
        split_ifs <;> rfl
      · rw [Part.sendScnt_hdec, Part.atEdge_hdec_get, if_neg (Ne.symm ne)]
      · rw [Part.sendScnt_jrnl, (Part.atEdge_frame _ _ _ _).2.2.2.2.1, if_neg fun k => free ⟨k.1, k.2.1⟩]
  case off =>
    have used : (s.part.atEdge h y d).used h = s.part.used h := by simp [Part.used, Part.headEntry]
    have nt : s.part.hdec[h].phase ≠ .test := by rw [phase]; decide
    refine ⟨_, exec_, ?_⟩
    rw [State.withPart_part, Part.handleEdge_off phase]
    refine ⟨?_, ?_, fun g ne => ?_, by simp⟩
    · rw [(Part.offEdge_frame _ _).1, get]
    · rw [Part.offEdge_sent, Part.atEdge_sent, Part.edgeCopies_of_ne_test _ _ _ _ nt]
      simp only [Part.atEdge_frame, used]
    · rw [(Part.offEdge_frame _ _).1, Part.atEdge_hdec_get, if_neg (Ne.symm ne)]

/-- The shadow decoding leaves the phase of the head (R20). -/
theorem Part.shadowEdge_phase (p : Part) (h : HeadId) (x : HeadDecoder) (y : System) (d : EdgeDir) :
    (p.shadowEdge h x y d).hdec[h].phase = p.hdec[h].phase := by
  unfold Part.shadowEdge
  split
  · rfl
  · cases d
    · rw [Part.setHdec_get, if_pos rfl]
    · rfl
  · simp only [Part.setGen_hdec]
    rw [Part.setHdec_get, if_pos rfl]

/-- Settles O8: the shadow phase moves by the table of R7, and TGEN takes the fault and the outcome of the crossing. -/
theorem edgeInTestIsShadowDecoded : Obligations.EdgeInTestIsShadowDecoded := by
  intro h y d s ph up change _ phase shadow
  have get := s.part.atEdge_hdec_get h y d h
  rw [if_pos rfl] at get
  have copies : s.part.edgeCopies h y d = [{ h := h, y := y, d := d }] := if_pos (.inl phase)
  refine ⟨_, exec_edge_now h y d s up change, ?_⟩
  rw [State.withPart_part, Part.handleEdge_shadow phase]
  have sent : ((s.part.atEdge h y d).shadowEdge h s.part.hdec[h] y d).sent =
      { s.part.sent with copies := s.part.sent.copies ++ [{ h := h, y := y, d := d }] } := by
    rw [(Part.shadowEdge_frame _ _ _ _ _).2.2.2.2.2.2.2, Part.atEdge_sent, copies]
  refine ⟨?_, sent, by simp, by simp, by simp, by simp, by simp, rfl, rfl, ?_, ?_⟩
  · rw [Part.shadowEdge_phase, get, (HeadDecoder.atEdge_keeps _ y d _).1]
    exact phase
  · rintro rfl rfl
    rw [Part.shadowEdge_rising _ _ _ shadow, Part.setHdec_get, if_pos rfl, Part.setHdec_gen]
    exact ⟨by cases y <;> rfl, rfl, (Part.atEdge_frame _ _ _ _).2.2.1⟩
  · intro nx row
    obtain ⟨next, ne, arrives⟩ : traverseNext ph y d = some nx ∧ ph ≠ .idle ∧
        (nx = .idle → ph.arrivalDirection = if ph = .arrA ∨ ph = .depA then .aToB else .bToA) := by
      simp only [List.mem_cons, Prod.mk.injEq, List.not_mem_nil, or_false] at row
      obtain ⟨rfl, rfl, rfl, rfl⟩ | ⟨rfl, rfl, rfl, rfl⟩ | ⟨rfl, rfl, rfl, rfl⟩ | ⟨rfl, rfl, rfl, rfl⟩ |
        ⟨rfl, rfl, rfl, rfl⟩ | ⟨rfl, rfl, rfl, rfl⟩ | ⟨rfl, rfl, rfl, rfl⟩ | ⟨rfl, rfl, rfl, rfl⟩ |
        ⟨rfl, rfl, rfl, rfl⟩ | ⟨rfl, rfl, rfl, rfl⟩ | ⟨rfl, rfl, rfl, rfl⟩ | ⟨rfl, rfl, rfl, rfl⟩ := row <;>
        exact ⟨rfl, by decide, by decide⟩
    rw [Part.shadowEdge_traverse _ _ _ shadow ne, crossing_of_next _ _ _ _ next, Part.setGen_hdec, Part.setHdec_get,
      if_pos rfl, Part.setGen_gen, Sensor.within_eq]
    simp only [Generator.shadow, Part.atEdge_frame]
    refine ⟨trivial, trivial, trivial, fun moves => ?_, fun ends => ?_⟩
    · rw [if_neg moves]
      exact List.append_nil _
    · rw [if_pos ends, endOutcome_eq, arrives ends]
      rfl

end Sys2Proof.Machine

/-! SUPPORT. The dwell limit and the ms tick: what an examination of the heads leaves, what TGEN takes of a tick in
hand, and the statements about time. -/

namespace Sys2Proof.Machine

open Sys2Proof

/-! ### The dwell limit -/

section
variable {p : Part} {h : HeadId}

theorem HeadDecoder.dwellReached_iff (x : HeadDecoder) (limit : Nat) (ms : Word) :
    x.dwellReached limit ms = true ↔
      ∃ d, x.dwellStart = some d ∧ x.standing = false ∧ limit * 1000 ≤ (ms - d).toNat := by
  unfold HeadDecoder.dwellReached
  cases x.dwellStart <;> simp

theorem Part.dwells_iff (p : Part) (h : HeadId) :
    p.dwells h ↔ p.hdec[h].dwellReached p.topo.params.dwellLimit p.tbase.ms = true :=
  (HeadDecoder.dwellReached_iff _ _ _).symm

theorem Part.examineDwell_of_not (no : ¬ p.dwells h) : p.examineDwell h = p :=
  if_neg (mt (p.dwells_iff h).mpr no)

theorem Part.examineDwell_of_dwells (k : p.dwells h) :
    p.examineDwell h =
      (p.setHdec h { p.hdec[h] with standing := true }).record p.tbase.ms (.standing h false) :=
  if_pos ((p.dwells_iff h).mp k)

/-- Settles O9: the limit decides between the STANDING begin record and nothing. -/
theorem dwellLimitSetsStanding : Obligations.DwellLimitSetsStanding := by
  intro h s k
  have taken : exec (.dwellLimitReached h) s = .next (s.withPart (s.part.examineDwell h)) := State.powered_up _ _ k.1
  refine ⟨fun d start standing limit => ?_, fun no => ?_⟩
  · rw [taken, Part.examineDwell_of_dwells ⟨d, start, standing, limit⟩, Part.record_counting (s.part.setHdec h _) _ _ k.2.1 k.2.2]
    rfl
  · rw [taken, Part.examineDwell_of_not]
    · rfl
    · rintro ⟨d, start, standing, limit⟩
      obtain e | e | ⟨d', e, below⟩ := no
      · rw [e] at start
        cases start
      · rw [e] at standing
        cases standing
      · rw [e] at start
        cases start
        omega

/-- The heads other than the one examined dwell as before. -/
theorem Part.dwells_examineDwell (p : Part) {h g : HeadId} (ne : g ≠ h) : (p.examineDwell h).dwells g ↔ p.dwells g := by
  by_cases k : p.dwells h
  · rw [examineDwell_of_dwells k, Part.dwells_iff, Part.dwells_iff, Part.record_hdec, Part.record_topo,
      Part.record_tbase, Part.setHdec_get, if_neg (Ne.symm ne)]
    rfl
  · rw [examineDwell_of_not k]

/-- The head examined dwells no more: it stands (R13). -/
theorem Part.not_dwells_examineDwell (p : Part) (h : HeadId) : ¬ (p.examineDwell h).dwells h := by
  by_cases k : p.dwells h
  · rw [examineDwell_of_dwells k]
    rintro ⟨-, -, standing, -⟩
    rw [Part.record_hdec, Part.setHdec_get, if_pos rfl] at standing
    cases standing
  · rw [examineDwell_of_not k]
    exact k

/-- Heads that do not dwell are examined without effect. -/
theorem Part.foldl_examineDwell_of_not (l : List HeadId) (no : ∀ g ∈ l, ¬ p.dwells g) :
    l.foldl (fun q g => q.examineDwell g) p = p := by
  induction l with
  | nil => rfl
  | cons g l ih =>
    rw [List.foldl_cons, examineDwell_of_not (no g (List.mem_cons_self ..))]
    exact ih fun k hk => no k (List.mem_cons_of_mem _ hk)

theorem Part.examineAll_of_not (no : ∀ g : HeadId, ¬ p.dwells g) : p.examineAll = p :=
  foldl_examineDwell_of_not _ fun g _ => no g

/-- The first head that dwells may be examined by itself before the rest. -/
theorem Part.examineAll_examineDwell (first : ∀ g : HeadId, g < h → ¬ p.dwells g) :
    (p.examineDwell h).examineAll = p.examineAll := by
  obtain ⟨l, r, split⟩ := List.append_of_mem (List.mem_finRange h)
  have below (g : HeadId) (hg : g ∈ l) : g < h := by
    have sorted := List.pairwise_lt_finRange 32
    rw [split] at sorted
    exact (List.pairwise_append.mp sorted).2.2 g hg h (List.mem_cons_self ..)
  unfold Part.examineAll allHeads
  rw [split, List.foldl_append, List.foldl_append, List.foldl_cons, List.foldl_cons,
    foldl_examineDwell_of_not l fun g hg => first g (below g hg),
    foldl_examineDwell_of_not l fun g hg =>
      mt (p.dwells_examineDwell (below g hg).ne).mp (first g (below g hg)),
    examineDwell_of_not (p.not_dwells_examineDwell h)]

/-! ### A tick in hand -/

/-- Without a tick in hand TGEN takes none (R95 to R98, R105). -/
theorem Part.takePendingTick_of_none (no : p.gen.tickDue = false) : p.takePendingTick = p := by
  have due : ¬ p.gen.tickDue = true := by rw [no]; decide
  have pattern : p.patternStart = p := if_neg fun k => due k.1
  have mid : p.midStepSample = p := if_neg fun k => due k.1
  have window : p.followWindowClose = p := if_neg fun k => due k.1
  have lower : p.lowerPending = p := if_neg fun k => due k.1
  have deadline : p.stepDeadline = p := by
    unfold Part.stepDeadline
    split
    · rfl
    · exact if_neg fun k => due k.1
  have release : p.releaseTimeEnd = p := by
    unfold Part.releaseTimeEnd
    split
    · rfl
    · exact if_neg fun k => due k.1
  unfold Part.takePendingTick
  rw [lower, release, pattern, mid, window, deadline, ite_self]

theorem giveAt_eq (period : Nat) (ms : Word) (l : List Word) :
    giveAt period ms l = l ++ if ms.toNat % period = 0 then [ms] else [] := by
  unfold giveAt
  split
  · rfl
  · simp

end

/-- Settles O3: MS_TICK gives its ticks by the counter, and an empty queue passes one reference period. -/
theorem timePasses : Obligations.TimePasses := by
  intro s up
  have tick (u : State) (hu : u.up) : exec .msTick u = .next (u.withPart u.part.msTick) := State.powered_up _ _ hu
  refine ⟨?gives, fun due no => ?quiet, fun h u k first e => ?examined, fun idle => ?period, fun u down idle => ?held⟩
  case gives =>
    rw [tick s up]
    simp only [Part.msTick, Part.giveMsTick, Ticks.give, giveAt_eq]
    rfl
  case quiet => rw [Part.lastTickTaken, Part.examineAll_of_not no, Part.takePendingTick_of_none due]
  case examined =>
    obtain rfl : s.withPart (s.part.examineDwell h) = u := by
      have taken : exec (.dwellLimitReached h) s = .next (s.withPart (s.part.examineDwell h)) := State.powered_up _ _ up
      rw [taken] at e
      cases e
      rfl
    rw [tick s up, tick (s.withPart (s.part.examineDwell h)) up, State.withPart_part, Part.msTick, Part.lastTickTaken, Part.examineAll_examineDwell first]
    rfl
  case period =>
    have passes : step s = .next (s.withPart s.part.idlePeriod) := by
      simp only [step, idle, State.idle, up, if_false, Bool.false_eq_true]
    refine ⟨fun lt => ?_, fun le => ?_⟩
    · rw [passes, Part.idlePeriod, Config.periodsPerMs, if_pos lt]
      rfl
    · rw [passes, Part.idlePeriod, Config.periodsPerMs, if_neg (Nat.not_lt.mpr le), tick s up]
  case held => simp only [step, idle, State.idle, down, if_true]

end Sys2Proof.Machine

/-! SUPPORT. The settle tick: what it makes of one section, and of all sections in one update. -/

namespace Sys2Proof.Machine

open Sys2Proof

/-! ### One section -/

/-- What a settle tick makes of a section (R37, R38). -/
def Part.settled (p : Part) (i : SectionId) : SectionRec :=
  if p.scnt[i].state ≠ .settling then p.scnt[i]
  else if p.scnt[i].bounding.any (fun e => decide (p.hdec[e.1].phase ≠ .idle)) = true then
    { p.scnt[i] with remaining := (p.sectionEntry i).settle }
  else if p.scnt[i].remaining = 0 then
    { p.scnt[i] with state := .clear, slot := none, changes := p.scnt[i].changes + 1#8 }
  else { p.scnt[i] with remaining := p.scnt[i].remaining - 1 }

section
variable {p q : Part}

theorem Part.headsIdle_iff (p : Part) (i : SectionId) :
    p.headsIdle i = true ↔ ∀ e ∈ p.scnt[i].bounding, p.hdec[e.1].phase = .idle := by
  simp [Part.headsIdle]

theorem Part.any_not_idle (p : Part) (i : SectionId) :
    p.scnt[i].bounding.any (fun e => decide (p.hdec[e.1].phase ≠ .idle)) = !p.headsIdle i := by
  simp [Part.headsIdle, List.not_all_eq_any_not]

theorem Part.waitOver_iff (p : Part) (i : SectionId) : p.waitOver i = true ↔ p.settles i := by
  simp only [Part.waitOver, Bool.and_eq_true, decide_eq_true_eq, Part.headsIdle_iff, Part.settles, and_assoc]

theorem Part.settled_of_settles {i : SectionId} (k : p.settles i) :
    p.settled i = { p.scnt[i] with state := .clear, slot := none, changes := p.scnt[i].changes + 1#8 } := by
  have idle := (p.headsIdle_iff i).mpr k.2.1
  rw [Part.settled, if_neg (not_not.mpr k.1), Part.any_not_idle, idle, if_neg (by decide), if_pos k.2.2]

theorem Part.settleSection_of_settles {i : SectionId} (now : Word) (k : p.settles i) :
    p.settleSection now i = p.waitEnds now i := by
  have idle := (p.headsIdle_iff i).mpr k.2.1
  rw [Part.settleSection, if_neg (not_not.mpr k.1), idle, if_neg (by decide), if_pos k.2.2]

/-- Where no wait ends, the tick writes the wait of the section alone. -/
theorem Part.settleSection_of_not {i : SectionId} (now : Word) (no : ¬ p.settles i) :
    p.settleSection now i = p.setScnt i (p.settled i) := by
  by_cases st : p.scnt[i].state = .settling
  · rw [Part.settleSection, Part.settled, if_neg (not_not.mpr st), if_neg (not_not.mpr st), Part.any_not_idle]
    by_cases idle : p.headsIdle i = true
    · have left : ¬ p.scnt[i].remaining = 0 := fun z => no ⟨st, (p.headsIdle_iff i).mp idle, z⟩
      rw [idle, if_neg (by decide), if_neg left, if_neg (by decide), if_neg left]
    · have busy : (!p.headsIdle i) = true := by simpa using idle
      rw [if_pos busy, if_pos busy]
  · rw [Part.settleSection, Part.settled, if_pos st, if_pos st, Part.setScnt]
    simp

/-- The end of a wait changes the state, so that it counts (R30). -/
theorem SectionRec.counted_clear (x : SectionRec) (st : x.state = .settling) :
    SectionRec.counted x { x with state := .clear, slot := none } =
      { x with state := .clear, slot := none, changes := x.changes + 1#8 } := by
  simp [SectionRec.counted, st]

theorem Part.settleSection_get (p : Part) (now : Word) (i j : SectionId) :
    (p.settleSection now i).scnt[j] = if i = j then p.settled i else p.scnt[j] := by
  by_cases k : p.settles i
  · rw [settleSection_of_settles now k, Part.waitEnds_eq, (Part.reportSlot_frame _ _ _ _ _ _ _).2.1,
      Part.updateSection_get, settled_of_settles k, SectionRec.counted_clear _ k.1]
  · rw [settleSection_of_not now k, Part.setScnt_get]

theorem Part.settleSection_slots_get (p : Part) (now : Word) (i : SectionId) (n : SlotId) :
    (p.settleSection now i).slots[n] =
      if p.settles i ∧ p.scnt[i].slot = some n ∧ p.slots[n].serves 1#8 i.val then
        { p.slots[n] with state := .done, result := some .ok }
      else p.slots[n] := by
  by_cases k : p.settles i
  · rw [settleSection_of_settles now k, Part.waitEnds_eq, Part.reportSlot_slots_get]
    simp only [Part.updateSection_slots]
    exact if_congr (and_iff_right k).symm rfl rfl
  · rw [settleSection_of_not now k, if_neg fun e => k e.1]
    rfl

@[simp] theorem Part.settleSection_active (p : Part) (now : Word) (i : SectionId) :
    (p.settleSection now i).jrnl.active = p.jrnl.active := by
  by_cases k : p.settles i
  · rw [settleSection_of_settles now k, Part.waitEnds_eq, Part.reportSlot_active, Part.updateSection_active]
  · rw [settleSection_of_not now k]
    rfl

/-- The records of a section whose wait ends (R38, R59). -/
def Part.settleJournal (p : Part) (now : Word) (i : SectionId) (j : Journal) : Journal :=
  if p.settles i then
    p.reportJournal now p.scnt[i].slot 1#8 i.val .ok
      (j.take p.topo.params.ringCode now (.section_ i .settling .clear p.scnt[i].count p.scnt[i].cause))
  else j

theorem Part.Counts.settleSection_jrnl (c : p.Counts) (now : Word) (i : SectionId) :
    (p.settleSection now i).jrnl = p.settleJournal now i p.jrnl := by
  unfold Part.settleJournal
  by_cases k : p.settles i
  · have c' : (p.updateSection now i { p.scnt[i] with state := .clear, slot := none }).Counts :=
      c.congr (by simp) (by simp)
    rw [settleSection_of_settles now k, Part.waitEnds_eq, c'.reportSlot_jrnl, c.updateSection_jrnl, if_pos k]
    rw [p.reportJournal_congr _ _ _ _ _ _ _ (by simp) fun n _ => by simp]
    simp only [Journal.afterSection, k.1, reduceCtorEq, if_false]
  · rw [settleSection_of_not now k, if_neg k]
    rfl

end

/-! ### All sections -/

section
variable {p q : Part}

/-- What the tick reads of a section. -/
structure Part.SameWait (p q : Part) (i : SectionId) : Prop where
  hdec : q.hdec = p.hdec
  topo : q.topo = p.topo
  record : q.scnt[i] = p.scnt[i]

theorem Part.SameWait.settles {i : SectionId} (same : p.SameWait q i) : q.settles i ↔ p.settles i := by
  obtain ⟨hdec, -, record⟩ := same
  unfold Part.settles
  rw [record, hdec]

theorem Part.SameWait.settled {i : SectionId} (same : p.SameWait q i) : q.settled i = p.settled i := by
  obtain ⟨hdec, topo, record⟩ := same
  unfold Part.settled Part.sectionEntry
  rw [record, hdec, topo]

theorem Part.SameWait.settleSection {i k : SectionId} (same : p.SameWait q i) (now : Word) (ne : k ≠ i) :
    p.SameWait (q.settleSection now k) i := by
  refine ⟨by simpa using same.hdec, by simpa using same.topo, ?_⟩
  rw [Part.settleSection_get, if_neg ne]
  exact same.record

/-- The sections of a list, each examined once. -/
def Part.settleSections (p : Part) (now : Word) (l : List SectionId) : Part :=
  l.foldl (fun q i => q.settleSection now i) p

theorem Part.settleAll_eq (p : Part) (now : Word) : p.settleAll now = p.settleSections now allSections := rfl

@[simp] theorem Part.settleSections_active (p : Part) (now : Word) (l : List SectionId) :
    (p.settleSections now l).jrnl.active = p.jrnl.active := by
  exact foldl_frame _ (fun q : Part => q.jrnl.active) (fun _ _ => Part.settleSection_active _ _ _) l p

theorem Part.settleSections_get_other (p : Part) (now : Word) (l : List SectionId) (i : SectionId) (hi : i ∉ l) :
    (p.settleSections now l).scnt[i] = p.scnt[i] := by
  induction l generalizing p with
  | nil => rfl
  | cons k l ih =>
    rw [List.mem_cons, not_or] at hi
    refine (ih (p.settleSection now k) hi.2).trans ?_
    rw [Part.settleSection_get, if_neg (Ne.symm hi.1)]

theorem Part.settleSections_get (p : Part) (now : Word) (l : List SectionId) (nodup : l.Nodup) (i : SectionId)
    (hi : i ∈ l) : (p.settleSections now l).scnt[i] = p.settled i := by
  suffices gen : ∀ q : Part, p.SameWait q i → (q.settleSections now l).scnt[i] = p.settled i from gen p ⟨rfl, rfl, rfl⟩
  induction l with
  | nil => cases hi
  | cons k l ih =>
    intro q same
    rw [List.nodup_cons] at nodup
    show ((q.settleSection now k).settleSections now l).scnt[i] = _
    rcases List.mem_cons.mp hi with rfl | hi
    · rw [Part.settleSections_get_other _ _ _ _ nodup.1, Part.settleSection_get, if_pos rfl, same.settled]
    · exact ih nodup.2 hi _ (same.settleSection now fun e => nodup.1 (e ▸ hi))

/-- A slot takes the report of the one section its target names, when the wait of that section ends (R59, R148). -/
theorem Part.settleSections_slots_get (p : Part) (now : Word) (l : List SectionId) (nodup : l.Nodup) (n : SlotId) :
    (p.settleSections now l).slots[n] =
      if ∃ i ∈ l, p.settles i ∧ p.scnt[i].slot = some n ∧ p.slots[n].serves 1#8 i.val then
        { p.slots[n] with state := .done, result := some .ok }
      else p.slots[n] := by
  suffices gen : ∀ q : Part, (∀ i ∈ l, p.SameWait q i) →
      (q.settleSections now l).slots[n] =
        if ∃ i ∈ l, p.settles i ∧ p.scnt[i].slot = some n ∧ q.slots[n].serves 1#8 i.val then
          { q.slots[n] with state := .done, result := some .ok }
        else q.slots[n] from gen p fun _ _ => ⟨rfl, rfl, rfl⟩
  induction l with
  | nil => intro q _; simp [Part.settleSections]
  | cons k l ih =>
    intro q same
    rw [List.nodup_cons] at nodup
    have here := same k (List.mem_cons_self ..)
    have tail := ih nodup.2 (q.settleSection now k) fun i hi =>
      (same i (List.mem_cons_of_mem _ hi)).settleSection now fun e => nodup.1 (e ▸ hi)
    refine Eq.trans tail ?_
    rw [Part.settleSection_slots_get]
    have same_ : q.settles k ∧ q.scnt[k].slot = some n ∧ q.slots[n].serves 1#8 k.val ↔
        p.settles k ∧ p.scnt[k].slot = some n ∧ q.slots[n].serves 1#8 k.val := by
      rw [here.record]
      exact and_congr_left fun _ => here.settles
    by_cases s : p.settles k ∧ p.scnt[k].slot = some n ∧ q.slots[n].serves 1#8 k.val
    · rw [if_pos (same_.mpr s)]
      refine Eq.trans (if_neg ?_) (if_pos ⟨k, List.mem_cons_self .., s⟩).symm
      rintro ⟨i, -, -, -, busy, -⟩
      simp [Slot.busy, SlotState.inProgress] at busy
    · rw [if_neg (mt same_.mp s)]
      congr 1
      simp only [List.mem_cons, exists_eq_or_imp, s, false_or]

theorem Part.Counts.settleSections_jrnl (c : p.Counts) (now : Word) (l : List SectionId) (nodup : l.Nodup) :
    (p.settleSections now l).jrnl = l.foldl (fun j i => p.settleJournal now i j) p.jrnl := by
  suffices gen : ∀ q : Part, q.Counts → q.topo = p.topo → (∀ i ∈ l, p.SameWait q i) →
      (∀ i ∈ l, ∀ n : SlotId, (q.slots[n].serves 1#8 i.val ↔ p.slots[n].serves 1#8 i.val) ∧
        (p.slots[n].serves 1#8 i.val →
          q.slots[n].token = p.slots[n].token ∧ q.slots[n].target = p.slots[n].target)) →
      (q.settleSections now l).jrnl = l.foldl (fun j i => p.settleJournal now i j) q.jrnl from
    gen p c rfl (fun _ _ => ⟨rfl, rfl, rfl⟩) fun _ _ _ => ⟨Iff.rfl, fun _ => ⟨rfl, rfl⟩⟩
  induction l with
  | nil => exact fun _ _ _ _ _ => rfl
  | cons k l ih =>
    intro q cq topo same slots
    rw [List.nodup_cons] at nodup
    have here := same k (List.mem_cons_self ..)
    have tail := ih nodup.2 (q.settleSection now k) (cq.congr (by simp) (by simp)) (by simpa using topo)
      (fun i hi => (same i (List.mem_cons_of_mem _ hi)).settleSection now fun e => nodup.1 (e ▸ hi))
      fun i hi n => by
        have old := slots i (List.mem_cons_of_mem _ hi) n
        rw [Part.settleSection_slots_get]
        split
        · rename_i s
          have other : ¬ q.slots[n].serves 1#8 i.val := fun o =>
            nodup.1 ((Fin.ext (s.2.2.2.2.symm.trans o.2.2) : k = i) ▸ hi)
          have other' := mt old.1.mpr other
          refine ⟨iff_of_false ?_ other', fun o => absurd o other'⟩
          exact fun o => other ⟨s.2.2.1, o.2⟩
        · exact old
    refine Eq.trans tail ?_
    rw [List.foldl_cons, cq.settleSection_jrnl]
    congr 1
    unfold Part.settleJournal
    by_cases e : p.settles k
    · rw [if_pos e, if_pos (here.settles.mpr e), here.record, topo,
        p.reportJournal_congr now _ _ _ _ q _ topo fun n _ => slots k (List.mem_cons_self ..) n]
    · rw [if_neg e, if_neg (mt here.settles.mp e)]

end

/-! ### The statements -/

section
variable {s : State} {v : Word} {rest : List Word}

/-- The settle tick in RUNNING. -/
theorem exec_settleTick_running (up : s.up) (run : s.part.topo.mode = .running) (e : s.part.ticks.scnt = v :: rest) :
    exec .settleTick s =
      .next (s.withPart ((s.part.setTicks { s.part.ticks with scnt := rest }).settleSections v allSections)) := by
  have taken : s.part.settleTick = (s.part.setTicks { s.part.ticks with scnt := rest }).settleAll v := by
    have running : (s.part.setTicks { s.part.ticks with scnt := rest }).running = true := (s.part.running_iff).mpr run
    simp only [Part.settleTick, e, running, if_true]
  show s.powered (s.withPart s.part.settleTick) = _
  rw [taken]
  exact State.powered_up _ _ up

/-- Settles O13: each section is examined once, and a slot takes the report of the one section it names. -/
theorem settleTickExaminesSettlingSections : Obligations.SettleTickExaminesSettlingSections := by
  intro s v rest up e
  have nodup : allSections.Nodup := List.nodup_finRange 24
  have all (i : SectionId) : i ∈ allSections := List.mem_finRange i
  refine ⟨fun run => ?running, fun run => ?outside⟩
  case running =>
    refine ⟨_, exec_settleTick_running up run e, fun i => ?_, fun n => ?_, fun active => ?_, ?_⟩ <;>
      rw [State.withPart_part]
    · have same : s.part.SameWait (s.part.setTicks { s.part.ticks with scnt := rest }) i := ⟨rfl, rfl, rfl⟩
      rw [Part.settleSections_get _ v allSections nodup i (all i), same.settled]
      rfl
    · rw [Part.settleSections_slots_get _ v allSections nodup n]
      refine if_congr ?_ rfl rfl
      constructor
      · rintro ⟨i, -, settles, slot, busy, kind, target⟩
        exact ⟨busy, kind, i, target, slot, settles⟩
      · rintro ⟨busy, kind, i, target, slot, settles⟩
        exact ⟨i, all i, settles, slot, busy, kind, target⟩
    · have c : (s.part.setTicks { s.part.ticks with scnt := rest }).Counts := ⟨run, active⟩
      rw [c.settleSections_jrnl v allSections nodup]
      rfl
    · rw [← Part.settleAll_eq]
      simp
  case outside =>
    have taken : s.part.settleTick = s.part.setTicks { s.part.ticks with scnt := rest } := by
      have running : (s.part.setTicks { s.part.ticks with scnt := rest }).running = false :=
        s.part.running_eq_false run
      simp only [Part.settleTick, e, running, if_false, Bool.false_eq_true]
    show s.powered (s.withPart s.part.settleTick) = _
    rw [taken]
    exact State.powered_up _ _ up

/-- Settles O14: the settle tick in hand, which ends the wait of the section. -/
theorem settleWaitEndClearsSection : Obligations.SettleWaitEndClearsSection := by
  intro i s up run some_ st remaining idle
  have settles : s.part.settles i := ⟨st, idle, remaining⟩
  obtain ⟨v, rest, e⟩ := List.exists_cons_of_ne_nil some_
  have same : exec (.settleWaitEnd i) s = exec .settleTick s := by
    have ends := (s.part.waitOver_iff i).mpr settles
    have running := (s.part.running_iff).mpr run
    exact congrArg s.powered (if_pos ⟨some_, running, ends⟩)
  obtain ⟨t, taken, records, slots, journal, -, hdec, supv, gen, topo, -, -, path, mem⟩ :=
    (settleTickExaminesSettlingSections s v rest up e).1 run
  refine ⟨same, t, same.trans taken, ?_, fun n slot busy kind target => ?_, fun v' rest' e' active alone => ?_, hdec,
    supv, gen, topo, path, mem⟩
  · exact (records i).trans (Part.settled_of_settles settles)
  · exact (slots n).trans (if_pos ⟨busy, kind, i, target, slot, settles⟩)
  · rw [e] at e'
    cases e'
    rw [journal active]
    obtain ⟨l, r, split⟩ := List.append_of_mem (List.mem_finRange i)
    have sorted := List.nodup_finRange 24
    rw [split, List.nodup_append, List.nodup_cons] at sorted
    have skip (l : List SectionId) (hl : i ∉ l) (j : Journal) :
        l.foldl (fun j i => s.part.settleJournal v i j) j = j := by
      induction l generalizing j with
      | nil => rfl
      | cons k l ih =>
        rw [List.mem_cons, not_or] at hl
        rw [List.foldl_cons, Part.settleJournal, if_neg (alone k (Ne.symm hl.1))]
        exact ih hl.2 j
    show allSections.foldl (fun j i => s.part.settleJournal v i j) s.part.jrnl = _
    rw [allSections, split, List.foldl_append, List.foldl_cons,
      skip l (fun hi => sorted.2.2 i hi i (List.mem_cons_self ..) rfl), skip r sorted.2.1.1, Part.settleJournal,
      if_pos settles]
    rfl

end

end Sys2Proof.Machine

/-! SUPPORT. The screening of a command word in the terms of the statements: its target, the slots that name it, and the
refusal of each step (R141 to R144). -/

namespace Sys2Proof.Machine

open Sys2Proof

/-! ### Targets -/

theorem targetSection_eq_some_iff (t : Byte) (i : SectionId) : targetSection t = some i ↔ t.toNat = i.val := by
  refine ⟨targetSection_eq_some t i, fun e => ?_⟩
  simp only [targetSection, e, i.isLt, dite_true]

theorem targetHead_eq_some_iff (t : Byte) (h : HeadId) : targetHead t = some h ↔ t.toNat = h.val := by
  refine ⟨targetHead_eq_some t h, fun e => ?_⟩
  simp only [targetHead, e, h.isLt, dite_true]

theorem targetSlot_eq_some_iff (t : Byte) (m : SlotId) : targetSlot t = some m ↔ t.toNat = m.val := by
  constructor
  · intro e
    unfold targetSlot at e
    split at e <;> cases e
    rfl
  · intro e
    simp only [targetSlot, e, m.isLt, dite_true]

section
variable (p : Part) (n : SlotId) (kind target token check : Byte)

/-- Step 7 accepts the targets the statements name (R143). -/
theorem Part.targetInService_iff :
    p.targetInService n (commandWord kind target token check) = true ↔ p.serves n kind target := by
  simp only [Part.targetInService, cmdKind_commandWord, cmdTarget_commandWord, objectOfKind]
  split_ifs with section_ head
  · simp only [Option.any_eq_true, targetSection_eq_some_iff]
  · simp only [Option.any_eq_true, targetHead_eq_some_iff]
  · simp only [Option.any_eq_true, targetSlot_eq_some_iff, decide_eq_true_eq]
    constructor
    · rintro ⟨m, e, ne⟩
      exact ⟨by omega, fun k => ne (Fin.ext (e.symm.trans k))⟩
    · rintro ⟨lt, ne⟩
      exact ⟨⟨target.toNat, lt⟩, rfl, fun e => ne (congrArg Fin.val e)⟩

/-- Step 8 finds another slot in progress that names the object (R144). -/
theorem Part.targetBusy_iff :
    p.targetBusy n (commandWord kind target token check) = true ↔ p.namedElsewhere n kind target := by
  simp [Part.targetBusy, Part.namedElsewhere, allSlots]

end

/-! ### A command word at an open bus -/

theorem State.open_.up {s : State} (k : s.open_) : s.up := k.1

/-- REQE judges the word, and it goes to memory (R129). -/
theorem exec_requestOf (n : SlotId) (kind target token check : Byte) (s : State) (k : s.open_) :
    exec (requestOf kind n target token check) s =
      .next (s.commandTaken n kind target token check
        (s.part.request n (commandWord kind target token check))) := by
  have command : exec (requestOf kind n target token check) s = s.powered (s.command n kind target token check) := by
    unfold requestOf
    split_ifs with k1 k2 k3 k4 k5
    · rw [k1]; rfl
    · rw [k2]; rfl
    · rw [k3]; rfl
    · rw [k4]; rfl
    · rw [k5]; rfl
    · rfl
  rw [command, State.powered_up _ _ k.up, State.command_open _ _ _ _ _ _ k]
  rfl

/-- A refusal at step 4 or later (R141, R149). -/
theorem State.commandTaken_refuse (s : State) (n : SlotId) (kind target token check : Byte) (r : Result) :
    s.commandTaken n kind target token check (s.part.refuse n (commandWord kind target token check) r) =
      s.refusedWith n kind target token check r := by
  simp only [State.refusedWith, Part.refuse, Slot.request_, requestDetail, cmdKind_commandWord, cmdTarget_commandWord,
    cmdToken_commandWord]

section
variable {p : Part} {n : SlotId} {kind target token check : Byte}

theorem Part.request_of_free (h0 : kind ≠ 0#8) (free : p.slots[n].busy = false) :
    p.request n (commandWord kind target token check) =
      match p.earlyRefusal n (commandWord kind target token check) with
      | some r => p.refuse n (commandWord kind target token check) r
      | none => p.dispatch n (commandWord kind target token check) := by
  rw [Part.request, cmdKind_commandWord, if_neg h0, if_neg (by rw [free]; decide)] <;> rfl

/-- The refusal of the first step of 4 to 8 that applies (R141). -/
theorem Part.request_refused (h0 : kind ≠ 0#8) (free : p.slots[n].busy = false) {r : Result}
    (e : p.earlyRefusal n (commandWord kind target token check) = some r) :
    p.request n (commandWord kind target token check) = p.refuse n (commandWord kind target token check) r := by
  rw [request_of_free h0 free, e]

/-- Steps 4 to 8 in their order, on the fields of the word (R141 to R144). -/
theorem Part.earlyRefusal_eq :
    p.earlyRefusal n (commandWord kind target token check) =
      if p.topo.mode ≠ .running then some .notRunning
      else if check ≠ ~~~ token then some .badCheck
      else if 5 < kind.toNat then some .badKind
      else if ¬ p.serves n kind target then some .badTarget
      else if p.namedElsewhere n kind target then some .targetBusy
      else none := by
  rw [Part.earlyRefusal, cmdCheck_commandWord, cmdToken_commandWord, cmdKind_commandWord]
  refine if_congr (by simp [Part.running]) rfl (if_congr Iff.rfl rfl (if_congr Iff.rfl rfl ?_))
  refine if_congr ?_ rfl (if_congr (Part.targetBusy_iff _ _ _ _ _ _) rfl rfl)
  rw [← Part.targetInService_iff p n kind target token check]
  simp

end

/-- A screened word of a kind 1 to 5 is dispatched (R145). -/
theorem State.screened.request {s : State} {n : SlotId} {kind target token : Byte} (k : s.screened n kind target)
    (h0 : kind ≠ 0#8) (h5 : kind.toNat ≤ 5) :
    s.part.request n (commandWord kind target token (~~~ token)) =
      s.part.dispatch n (commandWord kind target token (~~~ token)) := by
  obtain ⟨counting, -, free, serves, alone⟩ := k
  rw [Part.request_of_free h0 free, Part.earlyRefusal_eq, if_neg (not_not.mpr counting.2.1),
    if_neg (not_not.mpr rfl), if_neg (Nat.not_lt.mpr h5), if_neg (not_not.mpr serves), if_neg alone]

/-- Settles O18: each clause is the first step of R141 that applies. -/
theorem requestsAreScreenedInOrder : Obligations.RequestsAreScreenedInOrder := by
  intro n kind target token check s k
  have refused (r : Result) (h0 : kind ≠ 0#8) (free : s.part.slots[n].busy = false)
      (e : s.part.earlyRefusal n (commandWord kind target token check) = some r) :
      exec (requestOf kind n target token check) s = .next (s.refusedWith n kind target token check r) := by
    rw [exec_requestOf n kind target token check s k, Part.request_refused h0 free e, State.commandTaken_refuse]
  refine ⟨?_, ?_, ?_, ?_, ?_, ?_, ?_⟩
  · intro h0
    rw [exec_requestOf n kind target token check s k, Part.request, cmdKind_commandWord, if_pos h0]
  · intro h0 busy
    rw [exec_requestOf n kind target token check s k, Part.request, cmdKind_commandWord, if_neg h0, if_pos busy]
    simp only [requestDetail, cmdKind_commandWord, cmdTarget_commandWord, cmdToken_commandWord]
  · intro h0 free run
    exact refused _ h0 free (by rw [Part.earlyRefusal_eq, if_pos run])
  · intro h0 free run bad
    exact refused _ h0 free (by rw [Part.earlyRefusal_eq, if_neg (not_not.mpr run), if_pos bad])
  · intro h0 free run good big
    exact refused _ h0 free (by
      rw [Part.earlyRefusal_eq, if_neg (not_not.mpr run), if_neg (not_not.mpr good), if_pos big])
  · intro h0 free run good kind_ out
    exact refused _ h0 free (by
      rw [Part.earlyRefusal_eq, if_neg (not_not.mpr run), if_neg (not_not.mpr good), if_neg (Nat.not_lt.mpr kind_),
        if_pos out])
  · intro h0 free run good kind_ serves named
    exact refused _ h0 free (by
      rw [Part.earlyRefusal_eq, if_neg (not_not.mpr run), if_neg (not_not.mpr good), if_neg (Nat.not_lt.mpr kind_),
        if_neg (not_not.mpr serves), if_pos named])

end Sys2Proof.Machine

/-! SUPPORT. Step 9: what the owners accept and refuse, and the ends that a cancel brings (R54 to R65, R82, R86, R93,
R94, R103, R145, R146). -/

namespace Sys2Proof.Machine

open Sys2Proof

/-! ### Whole updates while the part counts -/

section
variable {p : Part}

theorem Part.Counts.record_eq (c : p.Counts) (now : Word) (d : Detail) :
    p.record now d = p.setJrnl (p.journalAfter now d) := Part.record_counting p now d c.mode c.active

theorem Part.Counts.setJrnl_take (c : p.Counts) (now : Word) (d : Detail) :
    (p.setJrnl (p.journalAfter now d)).Counts := c.record_eq now d ▸ c.record now d

/-- An update that changes the state of a section (R30, R31). -/
theorem Part.Counts.updateSection_of_ne (c : p.Counts) (now : Word) (i : SectionId) (x : SectionRec)
    (ne : p.scnt[i].state ≠ x.state) :
    p.updateSection now i x =
      (p.setScnt i { x with changes := p.scnt[i].changes + 1#8 }).setJrnl
        (p.journalAfter now (.section_ i p.scnt[i].state x.state x.count x.cause)) := by
  have counted : SectionRec.counted p.scnt[i] x = { x with changes := p.scnt[i].changes + 1#8 } := by
    simp only [SectionRec.counted, ne, false_and, if_false]
  have c' : (p.setScnt i (SectionRec.counted p.scnt[i] x)).Counts := c.congr rfl rfl
  rw [Part.updateSection, if_neg ne, c'.record_eq, counted]
  rfl

end

/-! ### The dispatch of a screened word -/

section
variable {s : State} {n : SlotId} {target token : Byte}

theorem State.screened.exec {kind : Byte} (k : s.screened n kind target) (h0 : kind ≠ 0#8) (h5 : kind.toNat ≤ 5) :
    exec (requestOf kind n target token (~~~ token)) s =
      .next (s.commandTaken n kind target token (~~~ token)
        (s.part.dispatch n (commandWord kind target token (~~~ token)))) := by
  rw [exec_requestOf _ _ _ _ _ _ k.2.1, k.request h0 h5]

theorem Part.dispatch_sweep (p : Part) (n : SlotId) (token check : Byte) {target : Byte} {i : SectionId}
    (e : target.toNat = i.val) :
    p.dispatch n (commandWord 1#8 target token check) =
      match p.sweepRefusal i with
      | some r => p.refuse n (commandWord 1#8 target token check) r
      | none => (p.acceptSweep n i).startSlot n (commandWord 1#8 target token check) .waiting := by
  rw [Part.dispatch, cmdKind_commandWord, if_pos rfl, Part.dispatchSweep, cmdTarget_commandWord,
    (targetSection_eq_some_iff target i).mpr e] <;> rfl

theorem Part.dispatch_prepared (p : Part) (n : SlotId) (token check : Byte) {target : Byte} {i : SectionId}
    (e : target.toNat = i.val) :
    p.dispatch n (commandWord 2#8 target token check) =
      match p.preparedRefusal i with
      | some r => p.refuse n (commandWord 2#8 target token check) r
      | none => (p.acceptPrepared i).doneOk n (commandWord 2#8 target token check) := by
  rw [Part.dispatch, cmdKind_commandWord, if_neg (by decide), if_pos rfl, Part.dispatchPrepared, cmdTarget_commandWord,
    (targetSection_eq_some_iff target i).mpr e] <;> rfl

theorem Part.dispatch_restart (p : Part) (n : SlotId) (token check : Byte) {target : Byte} {h : HeadId}
    (e : target.toNat = h.val) :
    p.dispatch n (commandWord 3#8 target token check) =
      match p.restartRefusal h with
      | some r => p.refuse n (commandWord 3#8 target token check) r
      | none => (p.acceptRestart n h).startSlot n (commandWord 3#8 target token check) .waiting := by
  rw [Part.dispatch, cmdKind_commandWord, if_neg (by decide), if_neg (by decide), if_pos rfl, Part.dispatchRestart,
    cmdTarget_commandWord, (targetHead_eq_some_iff target h).mpr e] <;> rfl

theorem Part.dispatch_test (p : Part) (n : SlotId) (token check : Byte) {target : Byte} {h : HeadId}
    (e : target.toNat = h.val) :
    p.dispatch n (commandWord 4#8 target token check) =
      match p.testRefusal h with
      | some r => p.refuse n (commandWord 4#8 target token check) r
      | none => (p.acceptTest n h).startSlot n (commandWord 4#8 target token check) .active := by
  rw [Part.dispatch, cmdKind_commandWord, if_neg (by decide), if_neg (by decide), if_neg (by decide), if_pos rfl,
    Part.dispatchTest, cmdTarget_commandWord, (targetHead_eq_some_iff target h).mpr e] <;> rfl

theorem Part.dispatch_cancel (p : Part) (n : SlotId) (token check : Byte) {target : Byte} {m : SlotId}
    (e : target.toNat = m.val) :
    p.dispatch n (commandWord 5#8 target token check) =
      if p.slots[m].busy = true then
        ((p.cancelWork m).finishSlot p.tbase.ms m .cancelled .cancelled).doneOk n
          (commandWord 5#8 target token check)
      else p.refuse n (commandWord 5#8 target token check) .nothingToCancel := by
  rw [Part.dispatch, cmdKind_commandWord, if_neg (by decide), if_neg (by decide), if_neg (by decide),
    if_neg (by decide), Part.dispatchCancel, cmdTarget_commandWord, (targetSlot_eq_some_iff target m).mpr e]
  by_cases busy : p.slots[m].busy = true
  · exact (if_neg (by rw [busy]; decide)).trans (if_pos busy).symm
  · exact (if_pos (by rw [Bool.eq_false_of_not_eq_true busy]; decide)).trans (if_neg busy).symm

/-! ### Refusals -/

theorem State.screened.refuses_sweep (k : s.screened n 1#8 target) {i : SectionId} (e : target.toNat = i.val)
    {r : Result} (ref : s.part.sweepRefusal i = some r) :
    Machine.exec (.sweepReset n target token (~~~ token)) s =
      .next (s.refusedWith n 1#8 target token (~~~ token) r) := by
  refine (k.exec (by decide) (by decide)).trans ?_
  rw [Part.dispatch_sweep _ _ _ _ e, ref, ← State.commandTaken_refuse]

theorem State.screened.refuses_prepared (k : s.screened n 2#8 target) {i : SectionId} (e : target.toNat = i.val)
    {r : Result} (ref : s.part.preparedRefusal i = some r) :
    Machine.exec (.preparedReset n target token (~~~ token)) s =
      .next (s.refusedWith n 2#8 target token (~~~ token) r) := by
  refine (k.exec (by decide) (by decide)).trans ?_
  rw [Part.dispatch_prepared _ _ _ _ e, ref, ← State.commandTaken_refuse]

theorem State.screened.refuses_restart (k : s.screened n 3#8 target) {h : HeadId} (e : target.toNat = h.val)
    {r : Result} (ref : s.part.restartRefusal h = some r) :
    Machine.exec (.headRestart n target token (~~~ token)) s =
      .next (s.refusedWith n 3#8 target token (~~~ token) r) := by
  refine (k.exec (by decide) (by decide)).trans ?_
  rw [Part.dispatch_restart _ _ _ _ e, ref, ← State.commandTaken_refuse]

theorem State.screened.refuses_test (k : s.screened n 4#8 target) {h : HeadId} (e : target.toNat = h.val)
    {r : Result} (ref : s.part.testRefusal h = some r) :
    Machine.exec (.headTest n target token (~~~ token)) s =
      .next (s.refusedWith n 4#8 target token (~~~ token) r) := by
  refine (k.exec (by decide) (by decide)).trans ?_
  rw [Part.dispatch_test _ _ _ _ e, ref, ← State.commandTaken_refuse]

end

/-! ### The owners' conditions -/

theorem Health.ready_iff (x : Health) : x.ready = true ↔ x ∈ [.healthy, .marginal] := by
  cases x <;> simp [Health.ready]

theorem Health.mem_inService (x : Health) : x.inService = true ↔ x ∈ [.healthy, .marginal, .degraded] := by
  cases x <;> simp [Health.inService]

theorem Cause.any_preparable_iff (c : Option Cause) :
    c.any Cause.preparable = true ↔ c ∈ [some .headFailed, some .testAbort, some .resetCancelled] := by
  cases c with
  | none => simp
  | some c => cases c <;> simp [Cause.preparable]

section
variable {p : Part} {i : SectionId} {h : HeadId}

theorem Part.headsReady_iff (p : Part) (i : SectionId) :
    p.headsReady i = true ↔ ∀ e ∈ p.scnt[i].bounding, p.supv[e.1].health ∈ [.healthy, .marginal] := by
  simp only [Part.headsReady, List.all_eq_true, Health.ready_iff]

theorem Part.headsQuiet_iff (p : Part) (i : SectionId) :
    p.headsQuiet i = true ↔
      ∀ e ∈ p.scnt[i].bounding, p.hdec[e.1].phase = .idle ∧ p.hdec[e.1].standing = false := by
  simp [Part.headsQuiet]

theorem Part.sidesClear_iff (p : Part) (h : HeadId) :
    p.sidesClear h = true ↔ ∀ i ∈ p.adjacent h, p.scnt[i].state = .clear := by
  simp [Part.sidesClear]

theorem Part.headsReady_eq_false (p : Part) (i : SectionId) :
    p.headsReady i = false ↔ ∃ e ∈ p.scnt[i].bounding, p.supv[e.1].health ∉ [.healthy, .marginal] := by
  rw [← Bool.not_eq_true, p.headsReady_iff, not_forall₂]
  exact exists_congr fun e => exists_prop

theorem Part.headsReady_and_headsQuiet_eq_false (p : Part) (i : SectionId) :
    (p.headsReady i && p.headsQuiet i) = false ↔
      ∃ e ∈ p.scnt[i].bounding, p.supv[e.1].health ∉ [.healthy, .marginal] ∨
        p.hdec[e.1].phase ≠ .idle ∨ p.hdec[e.1].standing = true := by
  rw [← Bool.not_eq_true, Bool.and_eq_true, p.headsReady_iff, p.headsQuiet_iff, ← forall₂_and, not_forall₂]
  refine exists_congr fun e => exists_prop.trans (and_congr_right fun _ => ?_)
  rw [not_and_or, not_and_or, Bool.not_eq_false]

/-- SCNT's conditions of a sweep, in their order (R56). -/
theorem Part.sweepRefusal_eq (p : Part) (i : SectionId) :
    p.sweepRefusal i =
      if p.scnt[i].state ≠ .disturbed then some .state
      else if p.headsReady i = false then some .headNotReady
      else none :=
  if_congr Iff.rfl rfl (if_congr (by rw [Bool.not_eq_true']) rfl rfl)

/-- SCNT's conditions of a prepared reset, in their order (R62). -/
theorem Part.preparedRefusal_eq (p : Part) (i : SectionId) :
    p.preparedRefusal i =
      if p.scnt[i].state ≠ .disturbed then some .state
      else if (p.sectionEntry i).prepared = false ∨
          p.scnt[i].cause ∉ ([some .headFailed, some .testAbort, some .resetCancelled] : List (Option Cause)) then
        some .cause
      else if p.scnt[i].moved = true then some .moved
      else if (p.headsReady i && p.headsQuiet i) = false then some .headNotReady
      else none := by
  have cause := not_congr (Cause.any_preparable_iff p.scnt[i].cause)
  rw [Part.preparedRefusal]
  by_cases prepared : (p.sectionEntry i).prepared = true
  · simp only [prepared, Bool.not_true, Bool.false_eq_true, if_false, Bool.true_eq_false, false_or]
    exact if_congr Iff.rfl rfl (if_congr (by simpa using cause) rfl
      (if_congr Iff.rfl rfl (if_congr (by rw [Bool.not_eq_true']) rfl rfl)))
  · have prepared : (p.sectionEntry i).prepared = false := by simpa using prepared
    simp only [prepared, Bool.not_false, if_true, true_or]

theorem Part.restartRefusal_eq (p : Part) (h : HeadId) :
    p.restartRefusal h = if p.supv[h].health = .failed then none else some .state := rfl

/-- TGEN's conditions of a test of a used head, in their order (R93). -/
theorem Part.testRefusal_eq (p : Part) (h : HeadId) (used : p.used h = true) :
    p.testRefusal h =
      if p.supv[h].health ∉ [.healthy, .marginal, .degraded] ∨ p.hdec[h].phase ≠ .idle ∨
          p.hdec[h].standing = true then some .headNotReady
      else if ∃ i ∈ p.adjacent h, p.scnt[i].state ≠ .clear then some .state
      else if p.gen.state ≠ .idle ∨ p.gen.reportPending = true then some .testBusy
      else none := by
  have serv := Health.mem_inService p.supv[h].health
  have clear : (!p.sidesClear h) = true ↔ ∃ i ∈ p.adjacent h, p.scnt[i].state ≠ .clear := by
    rw [Bool.not_eq_true', ← Bool.not_eq_true, p.sidesClear_iff, not_forall₂]
    exact exists_congr fun i => exists_prop
  have gen : (!(decide (p.gen.state = .idle) && !p.gen.reportPending)) = true ↔
      p.gen.state ≠ .idle ∨ p.gen.reportPending = true := by
    rw [Bool.not_eq_true', Bool.and_eq_false_iff, decide_eq_false_iff_not, Bool.not_eq_false']
  have quiet : (!(decide (p.hdec[h].phase = .idle) && !p.hdec[h].standing)) = true ↔
      p.hdec[h].phase ≠ .idle ∨ p.hdec[h].standing = true := by
    rw [Bool.not_eq_true', Bool.and_eq_false_iff, decide_eq_false_iff_not, Bool.not_eq_false']
  rw [Part.testRefusal, used, Bool.true_and]
  by_cases out : p.supv[h].health.inService = true
  · rw [out, if_neg (by decide)]
    refine if_congr (quiet.trans ?_) rfl (if_congr clear rfl (if_congr gen rfl rfl))
    exact (or_iff_right (not_not.mpr (serv.mp out))).symm
  · have out' : p.supv[h].health.inService = false := by simpa using out
    rw [out', if_pos (by decide), if_pos (.inl (mt serv.mpr out))]

end

/-- A head that a screened test names is used (R143). -/
theorem State.screened.used {s : State} {n : SlotId} {kind target : Byte} (k : s.screened n kind target)
    (k3 : 2 < kind.toNat) (k4 : kind.toNat ≤ 4) {h : HeadId} (e : target.toNat = h.val) : s.part.used h = true := by
  have serves := k.2.2.2.1
  rw [Part.serves, if_neg (Nat.not_le.mpr k3), if_pos k4] at serves
  obtain ⟨g, eg, used⟩ := serves
  exact (Fin.ext (eg.symm.trans e) : g = h) ▸ used

/-- Settles O19: the conditions of each owner in their order, and a slot that is not in progress for a cancel. -/
theorem ownersRefuseInOrder : Obligations.OwnersRefuseInOrder := by
  intro n target token s
  refine ⟨fun i e k => ⟨fun ne => ?_, fun d out => ?_⟩, fun i e k => ⟨fun ne => ?_, fun d out => ?_,
    fun d prep cause moved => ?_, fun d prep cause moved out => ?_⟩, fun h e k ne => ?_, fun h e k => ?_,
    fun m e k free => ?_⟩
  · exact k.refuses_sweep e (by rw [Part.sweepRefusal_eq, if_pos ne])
  · exact k.refuses_sweep e (by rw [Part.sweepRefusal_eq, if_neg (not_not.mpr d), if_pos ((s.part.headsReady_eq_false i).mpr out)])
  · exact k.refuses_prepared e (by rw [Part.preparedRefusal_eq, if_pos ne])
  · exact k.refuses_prepared e (by rw [Part.preparedRefusal_eq, if_neg (not_not.mpr d), if_pos out])
  · have ok : ¬ ((s.part.sectionEntry i).prepared = false ∨
        s.part.scnt[i].cause ∉ [some .headFailed, some .testAbort, some .resetCancelled]) := by
      rw [prep]
      exact fun k => k.elim (by decide) (fun n => n cause)
    exact k.refuses_prepared e (by rw [Part.preparedRefusal_eq, if_neg (not_not.mpr d), if_neg ok, if_pos moved])
  · have ok : ¬ ((s.part.sectionEntry i).prepared = false ∨
        s.part.scnt[i].cause ∉ [some .headFailed, some .testAbort, some .resetCancelled]) := by
      rw [prep]
      exact fun k => k.elim (by decide) (fun n => n cause)
    exact k.refuses_prepared e (by
      rw [Part.preparedRefusal_eq, if_neg (not_not.mpr d), if_neg ok, if_neg (by rw [moved]; decide),
        if_pos ((s.part.headsReady_and_headsQuiet_eq_false i).mpr out)])
  · exact k.refuses_restart e (by rw [Part.restartRefusal_eq, if_neg ne])
  · have used := k.used (by decide) (by decide) e
    refine ⟨fun out => ?_, fun serv idle still busy => ?_, fun serv idle still clear busy => ?_⟩
    · refine k.refuses_test e ?_
      rw [Part.testRefusal_eq _ _ used, if_pos]
      refine out.imp_left fun f => ?_
      generalize s.part.supv[h].health = x at f
      revert f
      cases x <;> decide
    · have ok : ¬ (s.part.supv[h].health ∉ [.healthy, .marginal, .degraded] ∨ s.part.hdec[h].phase ≠ .idle ∨
          s.part.hdec[h].standing = true) := by
        rw [still]
        exact fun k => k.elim (fun n => n serv) fun k => k.elim (fun n => n idle) (by decide)
      exact k.refuses_test e (by rw [Part.testRefusal_eq _ _ used, if_neg ok, if_pos busy])
    · have ok : ¬ (s.part.supv[h].health ∉ [.healthy, .marginal, .degraded] ∨ s.part.hdec[h].phase ≠ .idle ∨
          s.part.hdec[h].standing = true) := by
        rw [still]
        exact fun k => k.elim (fun n => n serv) fun k => k.elim (fun n => n idle) (by decide)
      have sides : ¬ ∃ i ∈ s.part.adjacent h, s.part.scnt[i].state ≠ .clear := fun ⟨i, hi, ne⟩ => ne (clear i hi)
      exact k.refuses_test e (by rw [Part.testRefusal_eq _ _ used, if_neg ok, if_neg sides, if_pos busy])
  · refine (k.exec (by decide) (by decide)).trans ?_
    rw [Part.dispatch_cancel _ _ _ _ e, if_neg (by rw [free]; decide), State.commandTaken_refuse]

end Sys2Proof.Machine

/-! SUPPORT. What the owners do with an accepted request and with a cancel (R57, R63, R65, R82, R86, R94, R103, R145,
R146). -/

namespace Sys2Proof.Machine

open Sys2Proof

/-! ### The slots at step 9 -/

section
variable {p : Part} {n : SlotId} {kind target token check : Byte}

theorem Part.startSlot_eq (p : Part) (n : SlotId) (kind target token check : Byte) (st : SlotState) :
    p.startSlot n (commandWord kind target token check) st =
      p.setSlot n
        { p.slots[n] with state := st, kind := kind, target := target, token := token, result := none } := by
  simp only [Part.startSlot, Slot.request_, cmdKind_commandWord, cmdTarget_commandWord, cmdToken_commandWord]

theorem Part.Counts.doneOk_eq (c : p.Counts) :
    p.doneOk n (commandWord kind target token check) =
      (p.setSlot n
        { p.slots[n] with state := .done, kind := kind, target := target, token := token, result := some .ok }).setJrnl
        (p.journalAfter p.tbase.ms (.request n kind target token .ok)) := by
  have c' (x : Slot) : (p.setSlot n x).Counts := c.congr rfl rfl
  rw [Part.doneOk, (c' _).record_eq]
  simp only [Slot.request_, requestDetail, cmdKind_commandWord, cmdTarget_commandWord, cmdToken_commandWord]
  rfl

theorem Part.Counts.finishSlot_eq (c : p.Counts) (now : Word) (m : SlotId) (st : SlotState) (r : Result) :
    p.finishSlot now m st r =
      (p.setSlot m { p.slots[m] with state := st, result := some r }).setJrnl
        (p.journalAfter now (.request m p.slots[m].kind p.slots[m].target p.slots[m].token r)) := by
  have c' : (p.setSlot m { p.slots[m] with state := st, result := some r }).Counts := c.congr rfl rfl
  exact c'.record_eq now _

theorem Part.Counts.finishSlot (c : p.Counts) (now : Word) (m : SlotId) (st : SlotState) (r : Result) :
    (p.finishSlot now m st r).Counts := by
  have c' : (p.setSlot m { p.slots[m] with state := st, result := some r }).Counts := c.congr rfl rfl
  exact c'.record now _

/-- What the part does by its own records leaves it counting. -/
theorem Part.Counts.logs (c : p.Counts) {q : Part} (g : p.Logs q) : q.Counts := c.congr g.topo g.jrnl.keeps.1

theorem Part.Counts.cancelWork (c : p.Counts) (m : SlotId) {q : Part} (work : p.cancelWork m = q) : q.Counts :=
  work ▸ c.logs (p.logs_cancelWork m)

end

/-! ### Acceptance -/

section
variable {s : State} {n : SlotId} {target token : Byte}

/-- SCNT accepts a screened sweep (R57). -/
theorem State.screened.accepts_sweep (k : s.screened n 1#8 target) {i : SectionId} (e : target.toNat = i.val)
    (ref : s.part.sweepRefusal i = none) :
    Machine.exec (.sweepReset n target token (~~~ token)) s = .next (s.commandTaken n 1#8 target token (~~~ token)
      ((s.part.acceptSweep n i).startSlot n (commandWord 1#8 target token (~~~ token)) .waiting)) := by
  refine (k.exec (by decide) (by decide)).trans ?_
  rw [Part.dispatch_sweep _ _ _ _ e, ref]

theorem State.screened.accepts_prepared (k : s.screened n 2#8 target) {i : SectionId} (e : target.toNat = i.val)
    (ref : s.part.preparedRefusal i = none) :
    Machine.exec (.preparedReset n target token (~~~ token)) s = .next (s.commandTaken n 2#8 target token (~~~ token)
      ((s.part.acceptPrepared i).doneOk n (commandWord 2#8 target token (~~~ token)))) := by
  refine (k.exec (by decide) (by decide)).trans ?_
  rw [Part.dispatch_prepared _ _ _ _ e, ref]

/-- Settles O15: a sweep leaves the section waiting, a prepared reset leaves it clear. -/
theorem restorationsAccepted : Obligations.RestorationsAccepted := by
  refine ⟨fun n i target token s k e dist ready => ?_, fun n i target token s k e dist prep cause moved heads => ?_⟩
  · refine (k.accepts_sweep e ((s.part.sweepRefusal_eq_none i).mpr ⟨dist, (s.part.headsReady_iff i).mpr ready⟩)).trans ?_
    have accept := k.1.counts.updateSection_of_ne s.part.tbase.ms i
      { s.part.scnt[i] with state := .sweepWait, count := 0, cause := none, moved := false, slot := some n }
      (by rw [dist]; exact nofun)
    rw [Part.startSlot_eq, Part.acceptSweep, accept, dist]
    rfl
  · have ref := (s.part.preparedRefusal_eq_none i).mpr ⟨dist, prep, (Cause.any_preparable_iff _).mpr cause, moved,
      (s.part.headsReady_iff i).mpr fun h hh => (heads h hh).1,
      (s.part.headsQuiet_iff i).mpr fun h hh => (heads h hh).2⟩
    refine (k.accepts_prepared e ref).trans ?_
    have accept := k.1.counts.updateSection_of_ne s.part.tbase.ms i
      { s.part.scnt[i] with state := .clear, count := 0, cause := none, moved := false } (by rw [dist]; exact nofun)
    have counts : (s.part.acceptPrepared i).Counts := k.1.counts.congr (by simp) (by simp [Part.acceptPrepared])
    rw [counts.doneOk_eq, Part.acceptPrepared, accept, dist]
    rfl

/-- Settles O16. -/
theorem headRestartAccepted : Obligations.HeadRestartAccepted := by
  intro n h target token s k e failed
  refine (k.exec (by decide) (by decide)).trans ?_
  rw [Part.dispatch_restart _ _ _ _ e, (s.part.restartRefusal_eq_none h).mpr failed, Part.startSlot_eq]
  rfl

/-- Settles O17. -/
theorem headTestAccepted : Obligations.HeadTestAccepted := by
  intro n h target token s k e serv idle still clear gen free
  have ref := (s.part.testRefusal_eq_none h).mpr ⟨k.used (by decide) (by decide) e, (Health.mem_inService _).mpr serv,
    idle, still, (s.part.sidesClear_iff h).mpr clear, gen, free⟩
  refine (k.exec (by decide) (by decide)).trans ?_
  rw [Part.dispatch_test _ _ _ _ e, ref, Part.startSlot_eq]
  rfl

/-! ### Cancels -/

/-- A head that leaves TEST is placed by its levels (R15). -/
theorem HeadDecoder.settleByLevels_eq (x : HeadDecoder) (ms : Word) : x.settleByLevels ms = x.placed ms := by
  unfold HeadDecoder.settleByLevels HeadDecoder.placed
  by_cases free : x.free = true
  · simp only [free, if_true]
  · simp only [free, if_false, Bool.false_eq_true]

/-- A screened cancel names another slot (R143). -/
theorem State.screened.cancel_ne (k : s.screened n 5#8 target) {m : SlotId} (e : target.toNat = m.val) : m ≠ n := by
  have serves := k.2.2.2.1
  rw [Part.serves, if_neg (by decide), if_neg (by decide)] at serves
  exact fun eq => serves.2 (e.trans (congrArg Fin.val eq))

/-- A cancel of a slot in progress: the owner's update, then the two slots with their records (R146). -/
theorem State.screened.cancels (k : s.screened n 5#8 target) {m : SlotId} (e : target.toNat = m.val)
    (busy : s.part.slots[m].busy = true) {q : Part} (work : s.part.cancelWork m = q) (c : q.Counts) :
    Machine.exec (.cancel n target token (~~~ token)) s = .next (s.commandTaken n 5#8 target token (~~~ token)
      { q with
        jrnl := (q.journalAfter s.part.tbase.ms
            (.request m s.part.slots[m].kind s.part.slots[m].target s.part.slots[m].token .cancelled)).take
          s.part.topo.params.ringCode s.part.tbase.ms (.request n 5#8 target token .ok)
        slots := (s.part.slots.set m { s.part.slots[m] with state := .cancelled, result := some .cancelled }).set n
          { s.part.slots[n] with
            state := .done, kind := 5#8, target := target, token := token, result := some .ok } }) := by
  have other := k.cancel_ne e
  have slots : q.slots = s.part.slots := work ▸ (Part.cancelWork_frame _ _).1
  have topo : q.topo = s.part.topo := work ▸ by simp
  have tbase : q.tbase = s.part.tbase := work ▸ by simp
  refine (k.exec (by decide) (by decide)).trans ?_
  rw [Part.dispatch_cancel _ _ _ _ e, if_pos busy, (work ▸ rfl : s.part.cancelWork m = q),
    (c.finishSlot _ _ _ _).doneOk_eq, c.finishSlot_eq]
  have kept : (q.setSlot m { q.slots[m] with state := .cancelled, result := some .cancelled }).slots[n] = q.slots[n] := by
    rw [Part.setSlot_get, if_neg other]
  simp only [Part.setJrnl_slots, kept]
  rw [← slots, ← topo, ← tbase]
  rfl

end

/-- Settles O20. -/
theorem cancelEndsSweep : Obligations.CancelEndsSweep := by
  intro n m i target token s k e busy kind held only state
  have work : s.part.cancelWork m =
      (s.part.setScnt i
        { s.part.scnt[i].disturb .resetCancelled (s.part.cancelMoved i) with
          changes := s.part.scnt[i].changes + 1#8 }).setJrnl
        (s.part.journalAfter s.part.tbase.ms
          (.section_ i s.part.scnt[i].state .disturbed 0 (some .resetCancelled))) := by
    have ne : s.part.scnt[i].state ≠ .disturbed := by
      intro eq
      rw [eq] at state
      exact absurd state (by decide)
    rw [Part.cancelWork, if_pos kind, Part.cancelSweep_eq _ _ i held only,
      k.1.counts.updateSection_of_ne s.part.tbase.ms i (s.part.scnt[i].disturb .resetCancelled (s.part.cancelMoved i)) ne]
    rfl
  refine (k.cancels e busy work (k.1.counts.cancelWork m work)).trans ?_
  rw [kind]
  rfl

/-- Settles O21. -/
theorem cancelEndsRestart : Obligations.CancelEndsRestart := by
  intro n m h target token s k e busy kind recovering held only
  have work : s.part.cancelWork m =
      (s.part.setSupv h (s.part.supv[h].endRecovery .failed s.part.supv[h].score)).setJrnl
        (s.part.journalAfter s.part.tbase.ms
          (.head h .recovering .failed s.part.supv[h].score .restartCancelled none)) := by
    have c : (s.part.setSupv h (s.part.supv[h].endRecovery .failed s.part.supv[h].score)).Counts :=
      k.1.counts.congr rfl rfl
    rw [Part.cancelWork, if_neg (by rw [kind]; decide), if_pos kind, Part.cancelRestart_eq _ _ h held only, c.record_eq]
    rfl
  refine (k.cancels e busy work (k.1.counts.cancelWork m work)).trans ?_
  rw [kind]
  rfl

/-- Settles O22. -/
theorem cancelEndsTest : Obligations.CancelEndsTest := by
  intro n m h d target token s k e busy kind running aims dir
  have work : s.part.cancelWork m =
      ((s.part.setGen (s.part.gen.release s.part.hdec[h])).setHdec h (s.part.hdec[h].placed s.part.tbase.ms)).setJrnl
        (s.part.journalAfter s.part.tbase.ms (.test h d .cancel (recordStep s.part.gen.step) none)) := by
    have c : ((s.part.setGen (s.part.gen.release s.part.hdec[h])).leaveTest h).Counts := k.1.counts.congr rfl rfl
    have placed : (s.part.setGen (s.part.gen.release s.part.hdec[h])).leaveTest h =
        (s.part.setGen (s.part.gen.release s.part.hdec[h])).setHdec h (s.part.hdec[h].placed s.part.tbase.ms) := by
      rw [Part.leaveTest, HeadDecoder.settleByLevels_eq]
      rfl
    rw [Part.cancelWork, if_neg (by rw [kind]; decide), if_neg (by rw [kind]; decide),
      Part.cancelTest_eq _ h aims running, c.record_eq, Generator.dir, dir, placed]
    rfl
  refine (k.cancels e busy work (k.1.counts.cancelWork m work)).trans ?_
  rw [kind, Generator.release, aims, dir]
  rfl

end Sys2Proof.Machine

/-! SUPPORT. The other words of the request window, ATTN, and the state right after reset (R129, R139, R142, R159, R160,
R169). -/

namespace Sys2Proof.Machine

open Sys2Proof

/-! ### Lanes -/

theorem laneByte_append (a b c d : Byte) (i : Nat) (lt : i < 4) :
    laneByte (d ++ c ++ b ++ a) i = if i = 0 then a else if i = 1 then b else if i = 2 then c else d := by
  obtain rfl | rfl | rfl | rfl : i = 0 ∨ i = 1 ∨ i = 2 ∨ i = 3 := by omega
  all_goals
    apply BitVec.eq_of_getLsbD_eq
    intro k hk
    simp only [laneByte, BitVec.getLsbD_extractLsb', BitVec.getLsbD_append, hk, decide_true, Bool.true_and]
    grind

/-- A merged word has the new bytes on the enabled lanes (R139). -/
theorem laneByte_mergeLanes (old new : Word) (l : Lanes) (i : Nat) (lt : i < 4) :
    laneByte (mergeLanes old new l) i = if l.getLsbD i = true then laneByte new i else laneByte old i := by
  rw [mergeLanes, laneByte_append _ _ _ _ i lt]
  obtain rfl | rfl | rfl | rfl : i = 0 ∨ i = 1 ∨ i = 2 ∨ i = 3 := by omega
  all_goals rfl

/-! ### Words that are no request -/

theorem State.partial_open (s : State) (n : SlotId) (l : Lanes) (w : Word) (h : s.open_) :
    s.present (writeSome (s.commandAddr n) l w) =
      (s.withPart (s.part.commandWrite n l w (violationAddr (writeSome (s.commandAddr n) l w)))).pass
        (writeSome (s.commandAddr n) l w) := by
  rw [State.present_open _ _ h]
  simp [State.accept, State.acceptWrite, State.classOf, writeSome, State.commandAddr, classify_command,
    Part.requestWrite, requestWordAt_command]

theorem violationAddr_aperture (aps : BitVec 4) (off : Nat) (a : Access) (addr : a.addr = apertureWord aps off)
    (h4 : off % 4 = 0) (h : off < 0x10000) :
    violationAddr a = BitVec.ofNat 24 (apertureBase aps + off) := by
  rw [violationAddr, addr, byteAddr_apertureWord aps off h4 h]

theorem violationAddr_command (s : State) (n : SlotId) (l : Lanes) (w : Word) :
    violationAddr (writeSome (s.commandAddr n) l w) =
      BitVec.ofNat 24 (apertureBase s.path.aps + commandOffset n) := by
  have := n.isLt
  exact violationAddr_aperture _ _ _ rfl (by simp only [commandOffset]; omega) (by simp only [commandOffset]; omega)

/-- Settles O23: fewer than four lanes of a command word are a violation, and a parameter word is merged. -/
theorem partialCommandAndParameterWrites : Obligations.PartialCommandAndParameterWrites := by
  intro n lanes data s k
  have partial_ (few : lanes ≠ fullLanes) : exec (.partialCommand n lanes data) s = .next
      ((s.withPart (s.part.record s.part.tbase.ms
        (.violation (BitVec.ofNat 24 (apertureBase s.path.aps + commandOffset n)) .partialCommand))).pass
        (writeSome (s.commandAddr n) lanes data)) := by
    refine (State.powered_up _ _ k.1).trans ?_
    rw [State.partial_open _ _ _ _ k, Part.commandWrite, if_neg few, violationAddr_command]
  refine ⟨fun few counts => ?_, fun few mode => ?_, ?_, fun i lt => laneByte_mergeLanes _ _ _ _ lt⟩
  · rw [partial_ few, counts.counts.record_eq]
    rfl
  · rw [partial_ few, Part.record_none _ _ _ (.inl mode)]
    rfl
  · refine (State.powered_up _ _ k.1).trans ?_
    rw [State.param_open _ _ _ _ k]
    rfl

/-! ### The consumer word -/

theorem ringSub_of_lt {k a b : Nat} (lt : b < 2 ^ k) : ringSub k a b = (a + 2 ^ k - b) % 2 ^ k := by
  rw [ringSub, Nat.mod_eq_of_lt lt]

/-- A consumer value is on the way forward from the consumer index to the producer index (R159). -/
theorem Journal.onTheWay_iff (j : Journal) (k v : Nat) (lt : j.consumer < 2 ^ k) :
    j.onTheWay k v = true ↔
      v < 2 ^ k ∧ (v + 2 ^ k - j.consumer) % 2 ^ k ≤ (j.producer + 2 ^ k - j.consumer) % 2 ^ k := by
  rw [Journal.onTheWay, ringSub_of_lt lt, ringSub_of_lt lt, Bool.and_eq_true, decide_eq_true_iff, decide_eq_true_iff]

section
variable {s : State} {v : Word} {k : Nat}

theorem State.exec_consumerWrite (o : s.open_) :
    exec (.consumerWrite v) s = .next
      ((s.withPart (s.part.consumerWrite fullLanes v (BitVec.ofNat 24 (apertureBase s.path.aps + consumerOffset)))).pass
        (writeFull (apertureWord s.path.aps consumerOffset) v)) := by
  refine (State.powered_up _ _ o.1).trans ?_
  rw [State.consumer_open _ _ o, violationAddr_aperture s.path.aps consumerOffset _ rfl (by decide) (by decide)]

/-- JRNL takes a value on the way forward (R159). -/
theorem Part.consumerWrite_accepted {p : Part} (a : Addr) (mode : p.topo.mode ≠ .unconfigured)
    (way : p.jrnl.onTheWay p.topo.params.ringCode v.toNat = true) :
    p.consumerWrite fullLanes v a =
      p.setJrnl (({ p.jrnl with consumer := v.toNat } : Journal).startWrite p.topo.params.ringCode) := by
  rw [Part.consumerWrite, if_pos ⟨rfl, mode⟩, Part.consumerJudged, if_pos way]

theorem Part.consumerWrite_kept {p : Part} (a : Addr) (mode : p.topo.mode ≠ .unconfigured)
    (way : ¬ p.jrnl.onTheWay p.topo.params.ringCode v.toNat = true) :
    p.consumerWrite fullLanes v a = p.record p.tbase.ms (.violation a .consumerRange) := by
  rw [Part.consumerWrite, if_pos ⟨rfl, mode⟩, Part.consumerJudged, if_neg way]

end

/-- Settles O24. -/
theorem consumerWriteIsJudged : Obligations.ConsumerWriteIsJudged := by
  intro v s k C P o ek eC eP lt _
  subst ek eC eP
  have way := s.part.jrnl.onTheWay_iff _ v.toNat lt
  have off (out : 2 ^ s.part.topo.params.ringCode ≤ v.toNat ∨
      (s.part.jrnl.producer + 2 ^ s.part.topo.params.ringCode - s.part.jrnl.consumer) %
          2 ^ s.part.topo.params.ringCode <
        (v.toNat + 2 ^ s.part.topo.params.ringCode - s.part.jrnl.consumer) % 2 ^ s.part.topo.params.ringCode) :
      ¬ s.part.jrnl.onTheWay s.part.topo.params.ringCode v.toNat = true := fun k => by
    have ⟨lt, le⟩ := way.mp k
    exact out.elim (Nat.not_le.mpr lt) (Nat.not_lt.mpr le)
  refine ⟨fun mode lt le => ?_, fun counts out => ?_, fun mode out => ?_, fun mode => ?_⟩
  · rw [s.exec_consumerWrite o, Part.consumerWrite_accepted _ mode (way.mpr ⟨lt, le⟩)]
    rfl
  · rw [s.exec_consumerWrite o, Part.consumerWrite_kept _ (by rw [counts.2.1]; decide) (off out), counts.counts.record_eq]
    rfl
  · rw [s.exec_consumerWrite o, Part.consumerWrite_kept _ (by rw [mode]; decide) (off out),
      Part.record_none _ _ _ (.inl (by rw [mode]; decide))]
    rfl
  · rw [s.exec_consumerWrite o, Part.consumerWrite, if_neg (fun k => k.2 mode)]
    rfl

/-! ### ATTN -/

theorem State.attn_iff (s : State) : s.attn = true ↔
    s.path.porst = false ∧
      (s.part.topo.mode = .halted ∨ (s.part.jrnl.active = true ∧ s.part.jrnl.producer ≠ s.part.jrnl.consumer)) := by
  simp [State.attn]

theorem State.attn_of_halted {s : State} (up : s.up) (mode : s.part.topo.mode = .halted) : s.attn = true :=
  s.attn_iff.mpr ⟨up, .inl mode⟩

theorem State.attn_eq_false {s : State} (mode : s.part.topo.mode ≠ .halted)
    (none : s.part.jrnl.active = false ∨ s.part.jrnl.producer = s.part.jrnl.consumer) : s.attn = false := by
  rw [← Bool.not_eq_true, s.attn_iff]
  rintro ⟨-, k | ⟨active, ne⟩⟩
  · exact mode k
  · exact none.elim (fun off => by rw [off] at active; cases active) ne

/-- Once HALTED the mode stays (R120). -/
theorem Part.Update.halted {aps : BitVec 4} {p q : Part} (u : p.Update aps q) (mode : p.topo.mode = .halted) :
    q.topo.mode = .halted := by
  obtain g | ⟨-, -, -, unc, -⟩ | rfl | ⟨j, b, rfl⟩ := u.logs
  · rw [g.topo, mode]
  · rw [mode] at unc; cases unc
  · obtain ⟨-, e⟩ | ⟨v, rest, -, e⟩ := p.topoSlowTick_cases <;> rw [e]
    · exact mode
    · rw [if_neg (by simp [Part.running, mode])]
      exact mode
  · rw [Part.corruptShadow, if_neg (by simp [Part.running, mode])]
    exact mode

/-- CPURST reaches no block and leaves PORST as it is (R135). -/
theorem State.cpurstOn_keeps (s : State) : s.cpurstOn.part = s.part ∧ s.cpurstOn.path.porst = s.path.porst := by
  unfold State.cpurstOn
  split_ifs <;> exact ⟨rfl, rfl⟩

/-- A command other than PORST_ASSERT leaves a halted part halted (R120). -/
theorem exec_halted {s : State} (up : s.up) (mode : s.part.topo.mode = .halted) (c : Instr) (no : c ≠ .porstAssert) :
    ∃ t : State, exec c s = .next t ∧ t.up ∧ t.part.topo.mode = .halted := by
  by_cases reset : isReset c = true
  · obtain rfl | ⟨a, la, lb, rfl⟩ | rfl | rfl := (isReset_iff c).mp reset
    · exact absurd rfl no
    · refine ⟨s, congrArg Host.Outcome.next ?_, up, mode⟩
      rw [State.porstOff, if_neg (by rw [up]; decide)]
    · exact ⟨_, rfl, s.cpurstOn_keeps.2.trans up, s.cpurstOn_keeps.1 ▸ mode⟩
    · exact ⟨_, rfl, up, mode⟩
  · obtain ⟨t, e, porst, -, -, u | rfl⟩ := exec_updates c s (by simpa using reset)
    · exact ⟨t, e, porst.trans up, u.halted mode⟩
    · refine ⟨_, e, porst.trans up, ?_⟩
      obtain e | ⟨e, -⟩ := s.wordComplete_cases <;> rw [e]
      · exact mode
      · exact mode

/-! ### The end of a record write -/

/-- What goes on in JRNL when a record other than HALT leaves the queue (R158). -/
theorem Journal.wordDone_w0 {j : Journal} {r : JRecord} {rest : List JRecord} (k : Nat) (now : Word)
    (w0 : j.writing = some .w0) (queue : j.queue = r :: rest) (kind : r.detail.isHalt = false) :
    j.wordDone k now = ((j.leaves k r rest).enterHalt now).startWrite k := by
  simp only [Journal.wordDone, w0, RecordWordIx.next, Journal.recordDone, queue, kind, Bool.false_eq_true, if_false]

/-- Entering a pending HALT record and starting a write keep what the ring shows. -/
theorem Journal.enterHalt_startWrite_ring (j : Journal) (k : Nat) (now : Word) :
    ((j.enterHalt now).startWrite k).active = j.active ∧ ((j.enterHalt now).startWrite k).producer = j.producer ∧
      ((j.enterHalt now).startWrite k).consumer = j.consumer := by
  have enter : (j.enterHalt now).active = j.active ∧ (j.enterHalt now).producer = j.producer ∧
      (j.enterHalt now).consumer = j.consumer := by
    unfold Journal.enterHalt
    split
    · split <;> exact ⟨rfl, rfl, rfl⟩
    · exact ⟨rfl, rfl, rfl⟩
  obtain e | e := (j.enterHalt now).startWrite_keeps k <;> rw [e] <;> exact enter

theorem Detail.isHalt_eq_false {d : Detail} (no : ∀ sum dropped, d ≠ .halt sum dropped) : d.isHalt = false := by
  cases d with
  | halt sum dropped => exact absurd rfl (no sum dropped)
  | _ => rfl

theorem State.exec_journalWordComplete {s : State} {w : JournalWord} (up : s.up) (word : s.path.jword = some w) :
    exec .journalWordComplete s = .next s.wordComplete ∧
      s.wordComplete.part =
        s.part.setJrnl (s.part.jrnl.wordDone s.part.topo.params.ringCode s.part.tbase.ms) ∧
      s.wordComplete.path.porst = s.path.porst := by
  refine ⟨State.powered_up _ _ up, ?_⟩
  simp only [State.wordComplete, word]
  exact ⟨trivial, rfl⟩

/-- Settles O25. -/
theorem attnFollowsModeAndRing : Obligations.AttnFollowsModeAndRing := by
  intro s up
  refine ⟨?_, fun mode off => s.attn_eq_false (by rw [mode]; decide) (.inl off), ?_, ?_, ?_, ?_⟩
  · rw [s.attn_iff]
    exact and_iff_right up
  · intro k v o counts ek cons _ lt le
    subst ek
    have way := (s.part.jrnl.onTheWay_iff _ v.toNat cons).mpr ⟨lt, le⟩
    refine ⟨_, s.exec_consumerWrite o, ?_⟩
    rw [Part.consumerWrite_accepted _ (by rw [counts.2.1]; decide) way]
    have mode : s.part.topo.mode ≠ .halted := by rw [counts.2.1]; decide
    generalize eq : ({ s.part.jrnl with consumer := v.toNat } : Journal) = j
    have ring : (j.startWrite s.part.topo.params.ringCode).active = true ∧
        (j.startWrite s.part.topo.params.ringCode).producer = s.part.jrnl.producer ∧
        (j.startWrite s.part.topo.params.ringCode).consumer = v.toNat := by
      obtain e | e := j.startWrite_keeps s.part.topo.params.ringCode <;> rw [e, ← eq] <;>
        exact ⟨counts.2.2, rfl, rfl⟩
    obtain ⟨active, producer, consumer⟩ := ring
    refine ⟨fun all => State.attn_eq_false mode (.inr ?_), fun some_ => (State.attn_iff _).mpr ⟨up, .inr ⟨active, ?_⟩⟩⟩
    · exact producer.trans (all.symm.trans consumer.symm)
    · exact fun e => some_ (consumer.symm.trans (e.symm.trans producer))
  · intro w r rest counts word w0 queue kind unread
    obtain ⟨e, part, porst⟩ := State.exec_journalWordComplete up word
    refine ⟨_, e, (State.attn_iff _).mpr ⟨porst.trans up, .inr ?_⟩⟩
    rw [part, Journal.wordDone_w0 _ _ w0 queue (Detail.isHalt_eq_false kind)]
    obtain ⟨active, producer, consumer⟩ :=
      (s.part.jrnl.leaves s.part.topo.params.ringCode r rest).enterHalt_startWrite_ring s.part.topo.params.ringCode
        s.part.tbase.ms
    exact ⟨active.trans counts.2.2, fun e => unread (producer.symm.trans (e.trans consumer))⟩
  · intro mode c no
    obtain ⟨t, e, up', mode'⟩ := exec_halted up mode c no
    exact ⟨t, e, State.attn_of_halted up' mode'⟩
  · rintro c (rfl | rfl)
    · refine ⟨_, rfl, ?_⟩
      rw [State.attn, State.attn, s.cpurstOn_keeps.1, s.cpurstOn_keeps.2]
    · exact ⟨_, rfl, rfl⟩

end Sys2Proof.Machine

/-! SUPPORT. The state right after reset, the tables of the score, the words of the topology window, and what changes a
place of the shadow (R71, R74, R76, R107, R109 to R111, R114, R119, R169). -/

namespace Sys2Proof.Machine

open Sys2Proof

/-! ### Power-on -/

section
variable (la lb : BitVec 32) (n : Nat)

theorem vouches_powerOn : Vouches (Part.powerOn la lb n) := by
  refine ⟨fun i e he => ?_, fun i e he => ?_, fun h k => ?_⟩
  · rw [Part.powerOn_scnt_get] at he
    cases he
  · rw [Part.powerOn_scnt_get] at he
    cases he
  · rw [Part.powerOn_supv_get] at k
    exact absurd rfl k

theorem slotsFit_powerOn : SlotsFit (Part.powerOn la lb n) := by
  refine ⟨fun _ => ⟨fun m => ?_, rfl⟩, fun m => (nomatch m)⟩
  rw [Part.powerOn_slots_get]
  rfl

end

/-- Settles O60: the power-on values of the blocks. -/
theorem resetMeetsInvariants : Obligations.ResetMeetsInvariants := by
  refine ⟨rfl, rfl, (headsOk_iff _).mpr (headsFit_powerOn _ _ _), (sectionsOk_iff _).mpr ?_,
    (proofOk_iff _).mpr (vouches_powerOn _ _ _), (healthOk_iff _).mpr ?_,
    ⟨⟨List.Pairwise.nil, fun _ k => nomatch k⟩, ⟨List.Pairwise.nil, fun _ k => nomatch k⟩,
      (topologyOk_iff _).mpr (.powerOn _ _ _)⟩,
    (slotsOk_iff _).mpr (slotsFit_powerOn _ _ _), timeOk_reset rfl rfl, (journalOk_iff _).mpr ?_,
    State.portOk_of_free rfl (by decide)⟩
  · exact .of_records _ (Part.powerOn_scnt_get _ _ _) fun _ => SectionRec.fits_powerOn
  · exact .of_records _ (Part.powerOn_supv_get _ _ _) fun _ => HeadHealth.agrees_powerOn
  · exact ⟨Journal.sound_powerOn _, fun _ => ⟨rfl, rfl⟩, fun m => (nomatch m)⟩

/-! ### Score -/

/-- Settles O28: the rows of R71 and R76. -/
theorem scanEventsAndHealthTable : Obligations.ScanEventsAndHealthTable := by
  refine ⟨fun x us stable e => ?_, fun n k le => ⟨?_, ?_⟩, fun n => ?_⟩
  · have same : x.stable us = true ↔ stable := by
      rw [e, Sensor.stable, Bool.or_eq_true, decide_eq_true_iff, decide_eq_true_iff]
    have on (k : stable) : x.stable us = true := same.mpr k
    have off (k : ¬ stable) : x.stable us = false := Bool.eq_false_of_not_eq_true (mt same.mp k)
    refine ⟨rfl, rfl, rfl, fun d => ?_, fun d k => ?_, fun d k => ?_, fun d => ?_, fun d k => ?_, fun d k => ?_⟩
    · simp [scanEvent, d]
    · simp [scanEvent, d, on k]
    · simp [scanEvent, off k]
    · simp [scanEvent, d]
    · simp [scanEvent, d, on k]
    · simp [scanEvent, off k]
  · simp only [ScoreChange.apply]
    split_ifs <;> omega
  · simp only [ScoreChange.apply]
    split_ifs <;> omega
  · refine ⟨fun a => ⟨if_pos a, if_pos a, if_pos a⟩, fun a b => ⟨?_, ?_⟩, fun a b => ?_, fun a => ?_, fun a b => ?_,
      fun a => ⟨?_, ?_⟩, fun a b => ?_, fun a b => ?_⟩
    all_goals simp (disch := omega) only [healthAfter, if_pos, if_neg]

/-! ### The words of the topology window -/

theorem getLsbD_iff_div (w : Word) (k : Nat) : w.getLsbD k = true ↔ w.toNat / 2 ^ k % 2 = 1 := by
  rw [BitVec.getLsbD, Nat.testBit_eq_decide_div_mod_eq, decide_eq_true_iff]

/-- Check 2, word by word (R114). -/
theorem Params.badWord_eq (c : Params) :
    c.badWord =
      if ¬(10 ≤ c.minSep ∧ c.minSep ≤ 255 ∧ 20 ≤ c.minPulse ∧ c.minPulse ≤ 1000) then some 0
      else if ¬(1 ≤ c.dwellLimit ∧ c.dwellLimit ≤ 255 ∧ 1 ≤ c.restartLimit ∧ c.restartLimit ≤ 255 ∧
          2 ≤ c.stepTime ∧ c.stepTime ≤ 30) then some 1
      else if ¬(c.openMax < c.dampedLow) then some 2
      else if ¬(c.dampedLow ≤ c.dampedHigh ∧ c.dampedHigh < c.normalLow) then some 3
      else if ¬(c.normalLow ≤ c.normalHigh ∧ c.normalHigh < c.shortMin) then some 4
      else none := by
  simp only [Params.badWord, within, Bool.not_eq_true', ← Bool.not_eq_true, Bool.and_eq_true, decide_eq_true_eq,
    and_assoc]

/-- Settles O41: each field of R109 to R111, and check 2 word by word (R114). -/
theorem topologyWordsGiveParameters : Obligations.TopologyWordsGiveParameters := by
  refine ⟨fun m c g ec eg => ?_, fun c t0 t1 t2 t3 t4 e0 e1 e2 e3 e4 => ?_⟩
  · subst ec eg
    refine ⟨field_zero _ _, field_eq _ _ _, field_zero _ _, field_eq _ _ _, field_eq _ _ _, field_zero _ _,
      field_eq _ _ _, field_zero _ _, field_eq _ _ _, field_zero _ _, field_eq _ _ _, field_zero _ 24, field_eq _ _ _,
      ?_, fun h i => ⟨Params.ofShadow_sideA m h i, Params.ofShadow_sideB m h i, rfl⟩, fun i => ?_⟩
    · exact (getLsbD_iff_div _ 0).trans (by rw [pow_zero, Nat.div_one]; rfl)
    · rw [Params.ofShadow_sections]
      refine ⟨?_, getLsbD_iff_div _ 1, field_eq _ _ _⟩
      exact (getLsbD_iff_div _ 0).trans (by rw [pow_zero, Nat.div_one]; rfl)
  · have tests := c.badWord_eq
    rw [e0, e1, e2, e3, e4]
    refine ⟨fun k => ?_, fun k0 k => ?_, fun k0 k1 k => ?_, fun k0 k1 k2 k => ?_, fun k0 k1 k2 k3 k => ?_,
      fun k0 k1 k2 k3 k4 => ?_⟩
    · rw [tests, if_pos k]
    · rw [tests, if_neg (not_not.mpr k0), if_pos k]
    · rw [tests, if_neg (not_not.mpr k0), if_neg (not_not.mpr k1), if_pos k]
    · rw [tests, if_neg (not_not.mpr k0), if_neg (not_not.mpr k1), if_neg (not_not.mpr k2), if_pos k]
    · rw [tests, if_neg (not_not.mpr k0), if_neg (not_not.mpr k1), if_neg (not_not.mpr k2), if_neg (not_not.mpr k3),
        if_pos k]
    · rw [tests, if_neg (not_not.mpr k0), if_neg (not_not.mpr k1), if_neg (not_not.mpr k2), if_neg (not_not.mpr k3),
        if_neg (not_not.mpr k4)]

/-! ### The shadow -/

theorem topologyOffset_lt (i : Place) : topologyOffset i % 4 = 0 ∧ topologyOffset i < 0x10000 := by
  have := i.isLt
  simp only [topologyOffset]
  omega

theorem Part.topologyWrite_plain (p : Part) (aps : BitVec 4) (i : Place) (l : Lanes) (w : Word)
    (no : commitJudged i l w = false) : p.topologyWrite aps i l w = p.merged i l w := by
  rw [Part.topologyWrite, if_neg (by rw [no]; decide)]
  rfl

theorem commitJudged_iff (i : Place) (l : Lanes) (w : Word) :
    commitJudged i l w = true ↔ i = commitPlace ∧ l = fullLanes ∧ w.extractLsb' 0 16 = 1#16 := by
  simp [commitJudged, and_assoc]

/-- A place of the shadow that is set, and the others (R107). -/
theorem Shadow.word_set_both (m : List (Nat × Word)) (i : Place) (v : Word) (h : Shadow.wf m) :
    Shadow.word (Shadow.set m i v) i.val = v ∧
      ∀ j : Nat, j ≠ i.val → Shadow.word (Shadow.set m i v) j = Shadow.word m j :=
  ⟨by rw [Shadow.word_set _ _ _ _ h, if_pos rfl], fun j ne => by rw [Shadow.word_set _ _ _ _ h, if_neg ne.symm]⟩

/-- A write of the topology window after the commit is kept (R128, R130). -/
theorem State.exec_topology_kept {s : State} (o : s.open_) (mode : s.part.topo.mode ≠ .unconfigured) (i : Place)
    (l : Lanes) (w : Word) :
    s.powered (s.present (writeSome (apertureWord s.path.aps (topologyOffset i)) l w)) = .next
      ((s.withPart (s.part.record s.part.tbase.ms
        (.violation (BitVec.ofNat 24 (apertureBase s.path.aps + topologyOffset i)) .topologyWrite))).complete
        { addr := apertureWord s.path.aps (topologyOffset i), write := true, bytes := [] }) := by
  rw [State.powered_up _ _ o.1, State.topology_kept _ _ _ _ o mode, State.keep,
    violationAddr_aperture s.path.aps (topologyOffset i) _ rfl (topologyOffset_lt i).1 (topologyOffset_lt i).2]
  rfl

/-- Settles O38. -/
theorem shadowTakesWritesAndCorruption : Obligations.ShadowTakesWritesAndCorruption := by
  intro i lanes data s
  refine ⟨fun o unc no wf => ?_, fun o counts => ?_, fun o mode => ?_, fun up run wf => ?_, fun up run => ?_⟩
  · have plain : commitJudged i lanes data = false := by
      rw [← Bool.not_eq_true, commitJudged_iff]
      exact no
    refine ⟨Shadow.merge s.part.topo.shadow i lanes data, (State.powered_up _ _ o.1).trans ?_,
      Shadow.word_set_both _ _ _ wf⟩
    rw [State.topology_open _ _ _ _ o unc, Part.topologyWrite_plain _ _ _ _ _ plain]
    rfl
  · refine (State.exec_topology_kept o (by rw [counts.2.1]; decide) i lanes data).trans ?_
    rw [counts.counts.record_eq]
    rfl
  · refine (State.exec_topology_kept o (by rw [mode]; decide) i lanes data).trans ?_
    rw [Part.record_none _ _ _ (.inl (by rw [mode]; decide))]
    rfl
  · refine ⟨_, (State.powered_up _ _ up).trans ?_, Shadow.word_set_both s.part.topo.shadow i _ wf⟩
    rw [Part.corruptShadow, if_pos (s.part.running_iff.mpr run)]
    rfl
  · refine (State.powered_up _ _ up).trans ?_
    rw [Part.corruptShadow, if_neg (mt s.part.running_iff.mp run)]
    rfl

end Sys2Proof.Machine

/-! SUPPORT. The commit, accepted and refused, and the change to HALTED (R112 to R117, R119, R120). -/

namespace Sys2Proof.Machine

open Sys2Proof

/-! ### The commit word -/

theorem extractLsb'_append (hi lo : BitVec 16) :
    (hi ++ lo).extractLsb' 0 16 = lo ∧ (hi ++ lo).extractLsb' 16 16 = hi := by
  constructor <;> apply BitVec.eq_of_getLsbD_eq <;> intro i lt
  · simp only [BitVec.getLsbD_extractLsb', BitVec.getLsbD_append, lt, decide_true, Bool.true_and, Nat.zero_add, if_true]
  · simp only [BitVec.getLsbD_extractLsb', BitVec.getLsbD_append, lt, decide_true, Bool.true_and,
      Nat.add_sub_cancel_left, if_neg (Nat.not_lt.mpr (Nat.le_add_right 16 i))]

theorem commitJudged_commitWord (check : BitVec 16) : commitJudged commitPlace fullLanes (commitWord check) = true :=
  (commitJudged_iff _ _ _).mpr ⟨rfl, rfl, (extractLsb'_append check 1#16).1⟩

/-- The commit word is a write of the last place (R107, R112). -/
theorem State.exec_commit (s : State) (check : BitVec 16) :
    exec (.commit check) s =
      s.powered (s.present (writeSome (apertureWord s.path.aps (topologyOffset commitPlace)) fullLanes
        (commitWord check))) := rfl

theorem Part.topologyWrite_commit (p : Part) (aps : BitVec 4) (check : BitVec 16) :
    p.topologyWrite aps commitPlace fullLanes (commitWord check) =
      (p.merged commitPlace fullLanes (commitWord check)).commit aps check := by
  rw [Part.topologyWrite, if_pos (commitJudged_commitWord check), commitWord, (extractLsb'_append check 1#16).2]
  rfl

/-- TOPO judges the shadow with the commit word in it (R112, R113). -/
theorem State.exec_commit_open {s : State} (o : s.open_) (unc : s.part.topo.mode = .unconfigured) (check : BitVec 16) :
    exec (.commit check) s = .next
      ((s.withPart ((s.part.merged commitPlace fullLanes (commitWord check)).commit s.path.aps check)).pass
        (writeFull (apertureWord s.path.aps 0x3FFC) (commitWord check))) := by
  rw [s.exec_commit check, State.powered_up _ _ o.1, State.topology_open _ _ _ _ o unc, Part.topologyWrite_commit]
  rfl

/-! ### The nine checks in order -/

section
variable {c : Params} {m : List (Nat × Word)} {aps : BitVec 4} {check : BitVec 16}

theorem judgeCommit_of_passesToRing (ec : c = Params.ofShadow m) (pass : c.passesToRing m aps check) :
    judgeCommit m aps check = c.judgeEntries m := by
  obtain ⟨sum, word, lo, hi, ring, out⟩ := pass
  have placed : ¬ c.ringMisplaced aps = true := by
    rw [Params.ringMisplaced_iff]
    omega
  rw [judgeCommit, if_neg (not_not.mpr sum), ← ec, word]
  exact if_neg placed

/-- No head has a side field that it may not hold (R113, check 4). -/
abbrev SidesSound (m : List (Nat × Word)) : Prop := ∀ g : HeadId, ¬ sidesBad (headEntryWord m g)

/-- Every side names a section in use (R113, check 5). -/
abbrev Params.NamesUsed (c : Params) : Prop := ∀ (g : HeadId) (i : SectionId), c.names g i → c.sections[i].inUse = true

/-- Every section in use is named (R113, check 6). -/
abbrev Params.AllNamed (c : Params) : Prop :=
  ∀ j : SectionId, c.sections[j].inUse = true → c.namingHeads j ≠ 0

/-- The entry of a section passes check 8 (R113). -/
abbrev SectionEntry.Sound (e : SectionEntry) : Prop := e.settle ≤ 15 ∧ (e.prepared = true → e.inUse = true)

theorem SectionEntry.bad_eq_false {e : SectionEntry} (h : e.Sound) : badSectionEntry e = false := by
  obtain ⟨le, used⟩ := h
  rw [← Bool.not_eq_true, badSectionEntry_iff]
  rintro (lt | ⟨prep, un⟩)
  · omega
  · rw [used prep] at un
    cases un

theorem find_badSides_none (h : SidesSound m) :
    (allHeads.find? fun h => badHeadSides (headEntryWord m h)) = none :=
  find?_finRange_eq_none _ fun g => by rw [← Bool.not_eq_true, badHeadSides_iff]; exact h g

theorem namesUnused_eq_false {h : HeadId} (used : ∀ i : SectionId, c.names h i → c.sections[i].inUse = true) :
    c.namesUnused h = false := by
  rw [← Bool.not_eq_true, Params.namesUnused_iff]
  rintro ⟨i, named, un⟩
  rw [used i named] at un
  cases un

theorem find_namesUnused_none (h : c.NamesUsed) : (allHeads.find? fun h => c.namesUnused h) = none :=
  find?_finRange_eq_none _ fun g => namesUnused_eq_false (h g)

theorem unnamed_eq_false {i : SectionId} (h : c.sections[i].inUse = true → c.namingHeads i ≠ 0) :
    (c.sections[i].inUse && (c.bounding i).isEmpty) = false := by
  rw [← Bool.not_eq_true, Bool.and_eq_true, Params.isEmpty_bounding]
  exact fun ⟨used, zero⟩ => h used zero

theorem find_unnamed_none (h : c.AllNamed) :
    (allSections.find? fun i => c.sections[i].inUse && (c.bounding i).isEmpty) = none :=
  find?_finRange_eq_none _ fun i => unnamed_eq_false (h i)

theorem crowded_eq_false {i : SectionId} (h : c.namingHeads i ≤ 8) : decide (8 < (c.bounding i).length) = false := by
  rw [Params.length_bounding, decide_eq_false_iff_not]
  omega

theorem find_crowded_none (h : ∀ i : SectionId, c.namingHeads i ≤ 8) :
    (allSections.find? fun i => decide (8 < (c.bounding i).length)) = none :=
  find?_finRange_eq_none _ fun i => crowded_eq_false (h i)

theorem find_badEntry_none (h : ∀ i : SectionId, c.sections[i].Sound) :
    (allSections.find? fun i => badSectionEntry c.sections[i]) = none :=
  find?_finRange_eq_none _ fun i => SectionEntry.bad_eq_false (h i)

/-- Check 4 (R113). -/
theorem Params.judgeEntries_sides {h : HeadId} (bad : sidesBad (headEntryWord m h))
    (first : ∀ g : HeadId, g < h → ¬ sidesBad (headEntryWord m g)) : c.judgeEntries m = (.badHeadEntry, h.val) := by
  have found : (allHeads.find? fun h => badHeadSides (headEntryWord m h)) = some h :=
    find?_finRange_eq_some _ h ((badHeadSides_iff _).mpr bad) fun g lt => by
      rw [← Bool.not_eq_true, badHeadSides_iff]
      exact first g lt
  simp only [Params.judgeEntries, found]

/-- Check 5 (R113). -/
theorem Params.judgeEntries_unused {h : HeadId} (sides : SidesSound m)
    (bad : ∃ i : SectionId, c.names h i ∧ c.sections[i].inUse = false)
    (first : ∀ g : HeadId, g < h → ∀ i : SectionId, c.names g i → c.sections[i].inUse = true) :
    c.judgeEntries m = (.badHeadEntry, h.val) := by
  have found : (allHeads.find? fun h => c.namesUnused h) = some h :=
    find?_finRange_eq_some _ h ((c.namesUnused_iff h).mpr bad) fun g lt => namesUnused_eq_false (first g lt)
  simp only [Params.judgeEntries, find_badSides_none sides, found]

/-- Check 6 (R113). -/
theorem Params.judgeEntries_unnamed {i : SectionId} (sides : SidesSound m) (used : c.NamesUsed)
    (inUse : c.sections[i].inUse = true) (zero : c.namingHeads i = 0)
    (first : ∀ j : SectionId, j < i → c.sections[j].inUse = true → c.namingHeads j ≠ 0) :
    c.judgeEntries m = (.sectionWithoutHead, i.val) := by
  have found : (allSections.find? fun i => c.sections[i].inUse && (c.bounding i).isEmpty) = some i :=
    find?_finRange_eq_some _ i (by rw [inUse, Bool.true_and, Params.isEmpty_bounding]; exact zero)
      fun j lt => unnamed_eq_false (first j lt)
  simp only [Params.judgeEntries, find_badSides_none sides, find_namesUnused_none used, found]

/-- Check 7 (R113). -/
theorem Params.judgeEntries_crowded {i : SectionId} (sides : SidesSound m) (used : c.NamesUsed) (named : c.AllNamed)
    (many : 8 < c.namingHeads i) (first : ∀ j : SectionId, j < i → c.namingHeads j ≤ 8) :
    c.judgeEntries m = (.tooManyHeads, i.val) := by
  have found : (allSections.find? fun i => decide (8 < (c.bounding i).length)) = some i :=
    find?_finRange_eq_some _ i (by rw [Params.length_bounding, decide_eq_true_iff]; exact many)
      fun j lt => crowded_eq_false (first j lt)
  simp only [Params.judgeEntries, find_badSides_none sides, find_namesUnused_none used, find_unnamed_none named, found]

/-- Check 8 (R113). -/
theorem Params.judgeEntries_entry {i : SectionId} (sides : SidesSound m) (used : c.NamesUsed) (named : c.AllNamed)
    (few : ∀ j : SectionId, c.namingHeads j ≤ 8)
    (bad : 15 < c.sections[i].settle ∨ (c.sections[i].prepared = true ∧ c.sections[i].inUse = false))
    (first : ∀ j : SectionId, j < i → c.sections[j].Sound) : c.judgeEntries m = (.badSectionEntry, i.val) := by
  have found : (allSections.find? fun i => badSectionEntry c.sections[i]) = some i :=
    find?_finRange_eq_some _ i ((badSectionEntry_iff _).mpr bad) fun j lt => SectionEntry.bad_eq_false (first j lt)
  simp only [Params.judgeEntries, find_badSides_none sides, find_namesUnused_none used, find_unnamed_none named,
    find_crowded_none few, found]

/-- Check 9 (R113). -/
theorem Params.judgeEntries_last (sides : SidesSound m) (used : c.NamesUsed) (named : c.AllNamed)
    (few : ∀ j : SectionId, c.namingHeads j ≤ 8) (sound : ∀ j : SectionId, c.sections[j].Sound) :
    c.judgeEntries m = if allHeads.any fun h => c.heads[h].used then (.accepted, 0) else (.noHeads, 0) := by
  simp only [Params.judgeEntries, find_badSides_none sides, find_namesUnused_none used, find_unnamed_none named,
    find_crowded_none few, find_badEntry_none sound]

end

/-- A write of the commit word after the commit is kept (R128, R130). -/
theorem State.exec_commit_kept {s : State} (o : s.open_) (mode : s.part.topo.mode ≠ .unconfigured)
    (check : BitVec 16) :
    exec (.commit check) s = .next
      ((s.withPart (s.part.record s.part.tbase.ms
        (.violation (BitVec.ofNat 24 (apertureBase s.path.aps + 0x3FFC)) .topologyWrite))).complete
        { addr := apertureWord s.path.aps 0x3FFC, write := true, bytes := [] }) :=
  (s.exec_commit check).trans (State.exec_topology_kept o mode commitPlace fullLanes (commitWord check))

/-- Settles O40: the first check that fails, in the order of R113. -/
theorem commitRefused : Obligations.CommitRefused := by
  intro check s m c o em ec
  refine ⟨fun r unc er no => ?_, fun sum => if_pos sum, fun j sum bad => ?_, fun sum word ring => ?_, fun pass => ?_,
    fun counts => ?_, fun mode => ?_⟩
  · subst er em
    refine (State.exec_commit_open o unc check).trans ?_
    rw [Part.commit]
    exact congrArg (fun q => Host.Outcome.next (State.pass (s.withPart q) _)) (if_neg no)
  · rw [judgeCommit, if_neg (not_not.mpr sum), ← ec, bad]
  · rw [judgeCommit, if_neg (not_not.mpr sum), ← ec, word]
    exact if_pos ((c.ringMisplaced_iff _).mpr ring)
  · rw [judgeCommit_of_passesToRing ec pass]
    refine ⟨fun h bad first => Params.judgeEntries_sides bad first, fun sides => ⟨fun h bad first =>
      Params.judgeEntries_unused sides bad first, fun used => ⟨fun i inUse zero first =>
      Params.judgeEntries_unnamed sides used inUse zero first, fun named => ⟨fun i many first =>
      Params.judgeEntries_crowded sides used named many first, fun few => ⟨fun i bad first =>
      Params.judgeEntries_entry sides used named few bad first, fun sound => ⟨fun none => ?_, fun some_ => ?_⟩⟩⟩⟩⟩⟩
    · rw [Params.judgeEntries_last sides used named few sound, if_neg]
      rw [Params.anyUsed_iff]
      exact fun ⟨h, i, k⟩ => none h i k
    · rw [Params.judgeEntries_last sides used named few sound, if_pos ((c.anyUsed_iff).mpr some_)]
  · rw [State.exec_commit_kept o (by rw [counts.2.1]; decide), counts.counts.record_eq]
    rfl
  · rw [State.exec_commit_kept o (by rw [mode]; decide), Part.record_none _ _ _ (.inl (by rw [mode]; decide))]
    rfl

/-! ### An accepted commit -/

section
variable (p : Part) (check : BitVec 16)

theorem Part.acceptCommit_topo : (p.acceptCommit check).topo = p.topo.accepted check (Params.ofShadow p.topo.shadow) :=
  rfl

theorem Part.acceptCommit_jrnl :
    (p.acceptCommit check).jrnl =
      Journal.started check (Params.ofShadow p.topo.shadow).ringCode p.tbase.ms := rfl

end

/-- A head at an accepted commit (R24). -/
theorem HeadDecoder.atCommit_used (x : HeadDecoder) (ms : Word) :
    (x.atCommit true ms).phase = (if x.free = true then .idle else .unsettled) ∧
      (x.atCommit true ms).dwellStart = if x.free = true then none else some ms := by
  rw [HeadDecoder.atCommit, if_pos rfl, HeadDecoder.settleByLevels_eq]
  exact ⟨rfl, rfl⟩

theorem HeadDecoder.atCommit_keeps (x : HeadDecoder) (used : Bool) (ms : Word) :
    (x.atCommit used ms).sensorA = x.sensorA ∧ (x.atCommit used ms).sensorB = x.sensorB ∧
      (x.atCommit used ms).suspect = false ∧ (x.atCommit used ms).standing = false := by
  cases used with
  | false => exact ⟨rfl, rfl, rfl, rfl⟩
  | true =>
    rw [HeadDecoder.atCommit, if_pos rfl, HeadDecoder.settleByLevels_eq]
    exact ⟨rfl, rfl, ite_self _, rfl⟩

/-- The START record is the first work of JRNL (R157, R162). -/
theorem Journal.started_eq (check : BitVec 16) (k : Nat) (now : Word) (pos : 0 < k) :
    Journal.started check k now =
      { active := true, queue := [{ detail := .start check k, seq := 0#16, time := now }], dropped := 0,
        nextSeq := 1#16, producer := 0, consumer := 0, lastSeq := 0#16, writing := some .w1, halt := .none } := by
  have two : 2 ≤ 2 ^ k := Nat.le_self_pow (Nat.ne_of_gt pos) 2
  have space : 0 < ringSub k (ringSub k 0 0) 1 := by
    have one : 1 % 2 ^ k = 1 := Nat.mod_eq_of_lt two
    have less : 2 ^ k - 1 < 2 ^ k := by omega
    rw [ringSub, ringSub, one, Nat.zero_add, Nat.zero_mod, Nat.sub_zero, Nat.mod_self, Nat.zero_add,
      Nat.mod_eq_of_lt less]
    omega
  exact if_pos ⟨rfl, rfl, List.cons_ne_nil _ _, space⟩

/-- Settles O39. -/
theorem commitAccepted : Obligations.CommitAccepted := by
  intro check s m c o unc em ec acc
  have checked := checked_of_accepted m s.path.aps check (congrArg Prod.fst acc)
  rw [← ec] at checked
  have accept : (s.part.merged commitPlace fullLanes (commitWord check)).commit s.path.aps check =
      (s.part.merged commitPlace fullLanes (commitWord check)).acceptCommit check := by
    subst em
    exact if_pos (congrArg Prod.fst acc)
  refine ⟨_, State.exec_commit_open o unc check, ?_⟩
  simp only [State.pass_part, State.withPart_part, State.pass_path, State.withPart_path, State.pass_mem,
    State.withPart_mem, accept]
  have params : Params.ofShadow (s.part.merged commitPlace fullLanes (commitWord check)).topo.shadow = c := by
    rw [ec, em]
    rfl
  have hdec (h : HeadId) := (s.part.merged commitPlace fullLanes (commitWord check)).acceptCommit_hdec_get check h
  have supv (h : HeadId) := (s.part.merged commitPlace fullLanes (commitWord check)).acceptCommit_supv_get check h
  have scnt (i : SectionId) := (s.part.merged commitPlace fullLanes (commitWord check)).acceptCommit_scnt_get check i
  simp only [params] at hdec supv scnt
  obtain ⟨gen, slots, tbase, ticks, sent⟩ :=
    (s.part.merged commitPlace fullLanes (commitWord check)).acceptCommit_frame check
  refine ⟨?_, fun h used => ?_, fun h used => ?_, fun h => ?_, fun i used => ?_, fun i used => ?_, ?_, gen, slots, tbase,
    ticks, sent, trivial, ?_⟩
  · rw [Part.acceptCommit_topo, params, em]
    rfl
  · rw [hdec, supv, used]
    exact ⟨(HeadDecoder.atCommit_used _ _).1, (HeadDecoder.atCommit_used _ _).2, rfl⟩
  · rw [hdec, supv, used]
    exact ⟨rfl, rfl, rfl⟩
  · rw [hdec]
    exact HeadDecoder.atCommit_keeps _ _ _
  · rw [scnt, SectionRec.atCommit, if_pos used]
    rfl
  · rw [scnt, SectionRec.atCommit, if_neg (by rw [used]; decide)]
  · rw [Part.acceptCommit_jrnl, params, Journal.started_eq _ _ _ (by have := checked.toRing.2.2.1; omega)]
    rfl
  · trivial

/-! ### The re-check -/

/-- The records of the slots that HALTED ends, taken in their order (R163). -/
theorem Part.foldl_haltRecords (p : Part) (k : Nat) (now : Word) (j : Journal) :
    p.haltRecords.foldl (fun q d => q.take k now d) j =
      allSlots.foldl
        (fun j n =>
          if p.slots[n].busy = true then
            j.take k now (.request n p.slots[n].kind p.slots[n].target p.slots[n].token .halted)
          else j) j := by
  rw [Part.haltRecords, List.foldl_filterMap]
  congr 1
  funext j n
  split_ifs <;> rfl

theorem Slot.atHalt_free {x : Slot} (free : x.busy = false) : x.atHalt = x := if_neg (by rw [free]; decide)

/-- The journal at the change to HALTED (R163). -/
theorem Journal.halted_of_place {j q : Journal} {k : Nat} {now : Word} {ended : List Detail} (sum : BitVec 16)
    (eq : q = ended.foldl (fun q d => q.take k now d) j) (place : q.queue.length < 16) :
    j.halted k now ended sum =
      Journal.startWrite
        { q with
          queue := q.queue ++ [{ detail := .halt sum q.dropped, seq := q.nextSeq, time := now }]
          nextSeq := q.nextSeq + 1#16
          dropped := 0 } k := by
  rw [Journal.halted, ← eq]
  exact if_pos (Journal.hasPlace_iff.mpr place)

theorem Journal.halted_of_full {j q : Journal} {k : Nat} {now : Word} {ended : List Detail} (sum : BitVec 16)
    (eq : q = ended.foldl (fun q d => q.take k now d) j) (full : 16 ≤ q.queue.length) :
    j.halted k now ended sum = { q with dropped := 0, halt := .pending sum q.dropped } := by
  rw [Journal.halted, ← eq]
  exact if_neg fun k => Nat.not_lt.mpr full (Journal.hasPlace_iff.mp k)

/-- Settles O42. -/
theorem recheckHalts : Obligations.RecheckHalts := by
  intro s v rest up ticks
  have given := s.part.topoSlowTick_cases.resolve_left fun ⟨k, _⟩ => by rw [ticks] at k; cases k
  obtain ⟨v', rest', ticks', e⟩ := given
  obtain ⟨rfl, rfl⟩ := List.cons.inj (ticks.symm.trans ticks')
  have exec_ : exec (.slowTick .topo) s = .next (s.withPart s.part.topoSlowTick) := State.powered_up _ _ up
  refine ⟨fun ok => ?_, fun run wrong => ?_⟩
  · have no : ¬ (s.part.running && decide (Shadow.sum s.part.topo.shadow ≠ s.part.topo.check)) = true := by
      rw [Bool.and_eq_true, s.part.running_iff, decide_eq_true_iff]
      exact fun ⟨run, wrong⟩ => ok.elim (fun k => k run) wrong
    rw [exec_, e, if_neg no]
    rfl
  · have yes : (s.part.running && decide (Shadow.sum s.part.topo.shadow ≠ s.part.topo.check)) = true := by
      rw [Bool.and_eq_true, s.part.running_iff, decide_eq_true_iff]
      exact ⟨run, wrong⟩
    rw [if_pos yes] at e
    refine ⟨_, exec_, ?_⟩
    simp only [State.withPart_part, State.withPart_path, State.withPart_mem, e]
    refine ⟨rfl, fun h => Part.halt_hdec_get _ _ _ h, fun i used => ?_, fun i unused => ?_, fun n busy => ?_,
      fun n free => ?_, rfl, rfl, fun q eq => ⟨fun place => ?_, fun full => ?_⟩, ?_, rfl, rfl, trivial, trivial⟩
    · rw [Part.halt_scnt_get, SectionRec.atHalt]
      exact if_neg used
    · rw [Part.halt_scnt_get, SectionRec.atHalt]
      exact if_pos unused
    · rw [Part.halt_slots_get, Slot.atHalt]
      exact if_pos busy
    · rw [Part.halt_slots_get]
      exact Slot.atHalt_free free
    · exact Journal.halted_of_place _ (eq.trans (s.part.foldl_haltRecords _ _ _).symm) place
    · exact Journal.halted_of_full _ (eq.trans (s.part.foldl_haltRecords _ _ _).symm) full
    · exact State.attn_of_halted up rfl

end Sys2Proof.Machine

/-! SUPPORT. The fields of a status word and of a record's detail, as numbers (R26, R53, R126, R150, R171). -/

namespace Sys2Proof.Machine

open Sys2Proof

/-! ### Codes fit their fields (11.3) -/

theorem Mode.code_lt (x : Mode) : x.code < 4 := by cases x <;> decide
theorem CommitCode.code_lt (x : CommitCode) : x.code < 16 := by cases x <;> decide
theorem SectionState.code_lt (x : SectionState) : x.code < 8 := by cases x <;> decide
theorem Phase.code_lt (x : Phase) : x.code < 16 := by cases x <;> decide
theorem Health.code_lt (x : Health) : x.code < 8 := by cases x <;> decide
theorem SlotState.code_lt (x : SlotState) : x.code < 8 := by cases x <;> decide
theorem Result.code_lt (x : Result) : x.code < 32 := by cases x <;> decide
theorem ViolationKind.code_lt (x : ViolationKind) : x.code < 8 := by cases x <;> decide
theorem Trigger.code_lt (x : Trigger) : x.code < 16 := by cases x <;> decide
theorem PassageOutcome.code_lt (x : PassageOutcome) : x.code < 4 := by cases x <;> decide
theorem TestOutcome.code_lt (x : TestOutcome) : x.code < 8 := by cases x <;> decide

theorem causeCode_lt (x : Option Cause) : causeCode x < 16 := by
  cases x with
  | none => decide
  | some c => cases c <;> decide

theorem resultCode_lt (x : Option Result) : resultCode x < 32 := by
  cases x with
  | none => decide
  | some r => exact r.code_lt

theorem systemCode_lt (x : Option System) : systemCode x < 4 := by
  cases x with
  | none => decide
  | some y => cases y <;> decide

theorem checkCode_lt (x : Option TestCheck) : checkCode x < 8 := by
  cases x with
  | none => decide
  | some k => cases k <;> decide

/-! ### Words as sums of their fields -/

/-- A word made of a high part and a low part. -/
theorem toNat_append_add {n m : Nat} (x : BitVec n) (y : BitVec m) : (x ++ y).toNat = x.toNat * 2 ^ m + y.toNat := by
  rw [BitVec.toNat_append, Nat.shiftLeft_eq, Nat.or_comm, Nat.mul_comm, Nat.or_comm]
  exact (Nat.two_pow_add_eq_or_of_lt y.isLt _).symm

/-- A number that fits its field is read back. -/
theorem toNat_field {n v : Nat} (fits : v < 2 ^ n) : (BitVec.ofNat n v).toNat = v := by
  rw [BitVec.toNat_ofNat, Nat.mod_eq_of_lt fits]

/-! ### The details of a record -/

section
variable (h : HeadId) (d : Direction)

theorem Detail.section_words (i : SectionId) (old new : SectionState) (n : Nat) (c : Option Cause) (le : n ≤ 1023) :
    (Detail.section_ i old new n c).word2.toNat =
        i.val + 256 * old.code + 65536 * new.code + 2 ^ 24 * causeCode c ∧
      (Detail.section_ i old new n c).word3.toNat = n := by
  have := i.isLt; have := old.code_lt; have := new.code_lt; have := causeCode_lt c
  simp only [Detail.word2, Detail.word3, toNat_append_add, BitVec.toNat_ofNat]
  omega

theorem Detail.head_words (old new : Health) (n : Nat) (g : Trigger) (y : Option System) (le : n ≤ 255) :
    (Detail.head h old new n g y).word2.toNat = h.val + 256 * old.code + 65536 * new.code + 2 ^ 24 * g.code ∧
      (Detail.head h old new n g y).word3.toNat = n + 256 * systemCode y := by
  have := h.isLt; have := old.code_lt; have := new.code_lt; have := g.code_lt; have := systemCode_lt y
  simp only [Detail.word2, Detail.word3, toNat_append_add, BitVec.toNat_ofNat]
  omega

theorem Detail.passage_words (o : PassageOutcome) :
    (Detail.passage h d o).word2.toNat = h.val + 256 * (directionBit d).toNat + 65536 * o.code ∧
      (Detail.passage h d o).word3 = 0#32 := by
  have := h.isLt; have := (directionBit d).isLt; have := o.code_lt
  refine ⟨?_, rfl⟩
  simp only [Detail.word2, toNat_append_add, BitVec.toNat_ofNat]
  omega

theorem Detail.request_words (n : SlotId) (kind target token : Byte) (r : Result) :
    (Detail.request n kind target token r).word2.toNat = n.val + 256 * r.code ∧
      (Detail.request n kind target token r).word3.toNat =
        kind.toNat + 256 * target.toNat + 65536 * token.toNat := by
  have := n.isLt; have := r.code_lt
  simp only [Detail.word2, Detail.word3, toNat_append_add, BitVec.toNat_ofNat]
  omega

theorem Detail.test_words (o : TestOutcome) (step : Option Nat) (k : Option TestCheck) (le : step.getD 0 ≤ 4) :
    (Detail.test h d o step k).word2.toNat =
        h.val + 256 * (directionBit d).toNat + 65536 * o.code + 2 ^ 24 * step.getD 0 ∧
      (Detail.test h d o step k).word3.toNat = checkCode k := by
  have := h.isLt; have := (directionBit d).isLt; have := o.code_lt; have := checkCode_lt k
  simp only [Detail.word2, Detail.word3, toNat_append_add, BitVec.toNat_ofNat]
  omega

end

/-- Settles O46: the words of each kind of record, field by field. -/
theorem recordWordLayouts : Obligations.RecordWordLayouts := by
  refine ⟨fun check k le => ?_, fun sum n le => ?_, Detail.section_words, Detail.head_words, fun h e => ?_,
    Detail.passage_words, Detail.request_words, Detail.test_words, fun a k => ?_, by decide, by decide, by decide,
    by decide, by decide, by decide, by decide, by decide, by decide, by decide, by decide, by decide, by decide,
    by decide, by decide, by decide⟩
  · simp only [Detail.word2, Detail.word3, toNat_append_add, BitVec.toNat_ofNat]
    omega
  · refine ⟨?_, ?_, ?_, rfl⟩ <;> simp only [Detail.word2, Detail.word3, toNat_append_add, BitVec.toNat_ofNat] <;> omega
  · have := h.isLt
    simp only [Detail.word2, Detail.word3, toNat_append_add, BitVec.toNat_ofNat, BitVec.toNat_ofBool]
    omega
  · have := k.code_lt
    simp only [Detail.word2, Detail.word3, toNat_append_add, BitVec.toNat_ofNat]
    omega

/-! ### The words of the status window -/

theorem sectionWord_toNat (x : SectionRec) (le : x.count ≤ 1023) :
    (sectionWord x).toNat =
      x.state.code + 8 * causeCode x.cause + 128 * x.moved.toNat + 256 * ((x.slot.map Fin.val).getD 0) +
        2048 * x.slot.isSome.toNat + 4096 * x.count + 2 ^ 24 * x.changes.toNat := by
  have := x.state.code_lt; have := causeCode_lt x.cause; have := x.moved.toNat_lt; have := x.slot.isSome.toNat_lt
  have slot : (x.slot.map Fin.val).getD 0 < 8 := by
    cases x.slot with
    | none => decide
    | some n => exact n.isLt
  simp only [sectionWord, toNat_append_add, BitVec.toNat_ofNat, BitVec.toNat_ofBool]
  omega

theorem headWord_toNat (x : HeadDecoder) (v : HeadHealth) (le : v.score ≤ 255) :
    (headWord x v).toNat =
      x.phase.code + 16 * x.sensorA.damped.toNat + 32 * x.sensorB.damped.toNat + 64 * x.suspect.toNat +
        128 * x.standing.toNat + 256 * v.health.code + 65536 * v.score := by
  have := x.phase.code_lt; have := v.health.code_lt; have := x.sensorA.damped.toNat_lt
  have := x.sensorB.damped.toNat_lt; have := x.suspect.toNat_lt; have := x.standing.toNat_lt
  simp only [headWord, toNat_append_add, BitVec.toNat_ofNat, BitVec.toNat_ofBool]
  omega

theorem slotWord_toNat (x : Slot) :
    (slotWord x).toNat =
      x.state.code + 8 * resultCode x.result + 256 * x.kind.toNat + 65536 * x.target.toNat +
        2 ^ 24 * x.token.toNat := by
  have := x.state.code_lt; have := resultCode_lt x.result
  simp only [slotWord, toNat_append_add, BitVec.toNat_ofNat]
  omega

section
variable (p : Part)

theorem statusWord_section (i : SectionId) : statusWord p (0x100 + 4 * i.val) = sectionWord p.scnt[i] := by
  have := i.isLt
  have place : (0x100 + 4 * i.val - 0x100) / 4 = i.val := by omega
  simp only [statusWord, place]
  rw [if_neg (by omega), if_neg (by omega), if_neg (by omega), if_neg (by omega), if_neg (by omega), if_neg (by omega),
    dif_pos (by omega)]
  rfl

theorem statusWord_head (h : HeadId) : statusWord p (0x200 + 4 * h.val) = headWord p.hdec[h] p.supv[h] := by
  have := h.isLt
  have place : (0x200 + 4 * h.val - 0x200) / 4 = h.val := by omega
  simp only [statusWord, place]
  rw [if_neg (by omega), if_neg (by omega), if_neg (by omega), if_neg (by omega), if_neg (by omega), if_neg (by omega),
    dif_neg (by omega), dif_pos (by omega)]
  rfl

theorem statusWord_slot (n : SlotId) : statusWord p (0x300 + 4 * n.val) = slotWord p.slots[n] := by
  have := n.isLt
  have place : (0x300 + 4 * n.val - 0x300) / 4 = n.val := by omega
  simp only [statusWord, place]
  rw [if_neg (by omega), if_neg (by omega), if_neg (by omega), if_neg (by omega), if_neg (by omega), if_neg (by omega),
    dif_neg (by omega), dif_neg (by omega), dif_pos (by omega)]
  rfl

/-- An offset without a meaning reads 0 (R127). -/
theorem statusWord_none (off : Nat)
    (out : (0x018 ≤ off ∧ off ≤ 0x0FC) ∨ (0x160 ≤ off ∧ off ≤ 0x1FC) ∨ (0x280 ≤ off ∧ off ≤ 0x2FC) ∨
      (0x320 ≤ off ∧ off ≤ 0xFFC)) : statusWord p off = 0#32 := by
  unfold statusWord
  rw [if_neg (by omega), if_neg (by omega), if_neg (by omega), if_neg (by omega), if_neg (by omega), if_neg (by omega),
    dif_neg (by omega), dif_neg (by omega), dif_neg (by omega)]

end

theorem classify_status (aps : BitVec 4) (ring : Option RingRegion) (off : Nat) (lt : off < 0x1000) (h4 : off % 4 = 0) :
    classify aps ring (apertureWord aps off) = .status off := by
  rw [classify_apertureWord _ _ _ h4 (by omega), windowClass, if_pos lt]

/-- A read of a status word is answered at once and leaves the port to the others (R126). -/
theorem State.accept_statusRead (s : State) (off : Nat) (l : Lanes) (w : Word) (lt : off < 0x1000) (h4 : off % 4 = 0) :
    s.accept { addr := apertureWord s.path.aps off, write := false, lanes := l, data := w } =
      s.complete (answerTo { addr := apertureWord s.path.aps off, write := false, lanes := l, data := w }
        (statusWord s.part off)) := by
  simp only [State.accept, Bool.false_eq_true, if_false, State.acceptRead, State.classOf, classify_status _ _ _ lt h4]

/-- The arbiter gives the port to no access where none is in flight (R133). -/
theorem Path.arbitrate_without_access (x : Path) (w : Option JournalWord) (c : Claimant) (none : x.flight = none) :
    (x.arbitrate w c).completed = x.completed ∧ (x.arbitrate w c).flight = .none := by
  by_cases free : x.portFree = true
  · rw [Path.arbitrate_free _ _ _ free]
    cases w with
    | none => simp [Path.grant, none]
    | some w => simp [Path.grant, Path.startJournal, Path.fallsFree, none]
  · rw [Path.arbitrate_busy _ _ _ (Bool.eq_false_of_not_eq_true free)]
    exact ⟨rfl, none⟩

theorem zero_append_setWidth (x : BitVec 16) : 0#16 ++ x = x.setWidth 32 := by
  refine BitVec.eq_of_toNat_eq ?_
  simp only [toNat_append_add, BitVec.toNat_setWidth, BitVec.toNat_ofNat]
  omega

/-- Settles O44. -/
theorem statusReadIsAnsweredLive : Obligations.StatusReadIsAnsweredLive := by
  intro off lanes first s o lt h4
  refine ⟨?_, ?_, ?_, ?_, ?_, ?_, ?_, fun i le => ?_, fun h le => ?_, fun n => ?_, fun out => ?_⟩
  · have arrived : s.present { addr := apertureWord s.path.aps off, write := false, lanes := lanes, data := 0#32 } =
        s.complete (answerTo { addr := apertureWord s.path.aps off, write := false, lanes := lanes, data := 0#32 }
          (statusWord s.part off)) := by
      rw [State.present_open _ _ o, State.accept_statusRead _ _ _ _ lt h4]
    refine ⟨_, State.powered_up _ _ o.1, ?_⟩
    simp only [State.portGrant, arrived]
    generalize hc : answerTo { addr := apertureWord s.path.aps off, write := false, lanes := lanes, data := 0#32 }
      (statusWord s.part off) = c
    obtain ⟨completed, flight⟩ :=
      (s.complete c).path.arbitrate_without_access (s.complete c).part.offered first o.2.2
    exact ⟨completed.trans (congrArg some hc.symm), flight, rfl, rfl⟩
  · exact if_pos rfl
  · refine BitVec.eq_of_toNat_eq ?_
    have := s.part.topo.result.code_lt
    rw [statusWord, if_neg (by decide), if_pos rfl]
    simp only [toNat_append_add, BitVec.toNat_ofNat]
    omega
  · rw [statusWord, if_neg (by decide), if_neg (by decide), if_pos rfl]
  · refine BitVec.eq_of_toNat_eq ?_
    rw [statusWord, if_neg (by decide), if_neg (by decide), if_neg (by decide), if_pos rfl]
    simp only [toNat_append_add, BitVec.toNat_ofNat]
    omega
  · rw [statusWord, if_neg (by decide), if_neg (by decide), if_neg (by decide), if_neg (by decide), if_pos rfl,
      zero_append_setWidth]
  · rw [statusWord, if_neg (by decide), if_neg (by decide), if_neg (by decide), if_neg (by decide), if_neg (by decide),
      if_pos rfl, zero_append_setWidth]
  · rw [statusWord_section, sectionWord_toNat _ le]
  · rw [statusWord_head, headWord_toNat _ _ le]
  · rw [statusWord_slot, slotWord_toNat]
  · exact statusWord_none _ _ out

end Sys2Proof.Machine

/-! SUPPORT. What reaches memory: a processor access that completes, and a journal word that completes (R124, R125, R132,
R157, R158, R163). -/

namespace Sys2Proof.Machine

open Sys2Proof

/-! ### Lanes written -/

theorem lanesOf_lt (l : Lanes) : ∀ i ∈ lanesOf l, i < 4 := by
  intro i h
  have listed := (List.mem_filter.mp h).1
  simp only [List.mem_cons, List.not_mem_nil, or_false] at listed
  omega

/-- A lane written reads as written. -/
theorem Memory.byte?_writeLanes_same (m : List Host.Cell) (base : Nat) (l : List Nat) (f : Nat → Byte)
    (low : ∀ i ∈ l, i < 4) (i : Nat) (h : i ∈ l) :
    Memory.byte? (Memory.writeLanes m base l f) ((base + i) % 2 ^ 24) = some (f i) := by
  induction l generalizing m with
  | nil => cases h
  | cons j l ih =>
    have rest : ∀ k ∈ l, k < 4 := fun k hk => low k (List.mem_cons_of_mem _ hk)
    have step : Memory.writeLanes m base (j :: l) f =
        Memory.writeLanes (Memory.put m (base + j) (f j)) base l f := rfl
    rw [step]
    by_cases later : i ∈ l
    · exact ih _ rest later
    · obtain rfl : i = j := (List.mem_cons.mp h).resolve_right later
      rw [Memory.byte?_writeLanes_other, Memory.byte?_put, if_pos rfl]
      intro k hk e
      have := low i h
      have := rest k hk
      obtain rfl : k = i := by omega
      exact later hk

theorem mem_allLanes {i : Nat} : i ∈ [0, 1, 2, 3] ↔ i < 4 := by
  simp only [List.mem_cons, List.not_mem_nil, or_false]
  omega

/-! ### A processor access -/

section
variable {s : State}

theorem State.accessComplete_of_idle (no : s.path.flight.any Flight.holds = false) : s.accessComplete = s := by
  unfold State.accessComplete
  split
  · rfl
  · rename_i f e
    rw [e] at no
    have free : f.holds = false := no
    exact if_neg (by rw [free]; decide)

theorem State.accessComplete_of_holds {f : Flight} (e : s.path.flight = some f) (holds : f.holds = true) :
    s.accessComplete = (s.finish f).next := by
  simp only [State.accessComplete, e, holds, if_true]

theorem State.next_of_none (no : s.path.waiting = none) : s.next = s := by
  simp only [State.next, no]

theorem State.next_of_waiting {a : Access} (e : s.path.waiting = some a) (off : s.path.cpurst = false) :
    s.next = ({ s with path := { s.path with waiting := none } } : State).accept a := by
  simp only [State.next, e, off, Bool.false_eq_true, if_false]

end

theorem outcomeOf_eq (a : Access) (m : List Host.Cell) :
    outcomeOf a m =
      { addr := a.addr, write := a.write
        bytes := if a.write = true then [] else
          (lanesOf a.lanes).map fun i => (i, Memory.byte m (4 * a.addr.toNat + i)) } := by
  unfold outcomeOf
  cases write : a.write with
  | true => simp only [if_true, writtenBy]
  | false => rfl

/-- Settles O47. -/
theorem memoryAccessCompletes : Obligations.MemoryAccessCompletes := by
  intro s up
  refine ⟨fun no => ?_, fun f e holds no => ?_, fun f a u e holds wait off first => ?_⟩
  · exact (State.powered_up _ _ up).trans (congrArg _ (State.accessComplete_of_idle no))
  · have done : s.accessComplete = s.finish f :=
      (State.accessComplete_of_holds e holds).trans (State.next_of_none no)
    refine ⟨s.finish f, (State.powered_up _ _ up).trans (congrArg _ done), rfl, fun a out => ?_, fun write i lane => ?_,
      fun read => ?_, ?_⟩
    · show Memory.byte? (memoryAfter f.access s.mem) a = _
      unfold memoryAfter
      split
      · exact Memory.byte?_writeLanes_other _ _ _ _ _ out
      · rfl
    · show Memory.byte? (memoryAfter f.access s.mem) _ = _
      rw [memoryAfter, if_pos write]
      exact Memory.byte?_writeLanes_same _ _ _ _ (lanesOf_lt _) i lane
    · exact if_neg (by rw [read]; decide)
    · simp only [State.finish, outcomeOf_eq]
      rfl
  · have done : s.accessComplete = (s.finish f).next := State.accessComplete_of_holds e holds
    have alone : exec .memoryAccessComplete { s with path := { s.path with waiting := none } } =
        .next ({ s with path := { s.path with waiting := none } } : State).accessComplete := State.powered_up _ _ up
    have idle : ({ s with path := { s.path with waiting := none } } : State).accessComplete =
        ({ s with path := { s.path with waiting := none } } : State).finish f :=
      (State.accessComplete_of_holds (s := { s with path := { s.path with waiting := none } }) e holds).trans
        (State.next_of_none rfl)
    rw [alone, idle] at first
    obtain rfl := Host.Outcome.next.inj first
    refine (State.powered_up _ _ up).trans (congrArg _ (done.trans ?_))
    exact State.next_of_waiting wait off

/-! ### A journal word -/

section
variable {s : State} {w : JournalWord}

/-- What the completion of a journal word leaves (R132, R157). -/
theorem State.wordComplete_eq (word : s.path.jword = some w) (p : Part)
    (part : p = s.part.setJrnl (s.part.jrnl.wordDone s.part.topo.params.ringCode s.part.tbase.ms)) :
    s.wordComplete =
      { s with
        part := p
        path :=
          { s.path with
            jword := none, accessWaited := s.path.flight.isSome
            wordWaited := (p.jrnl.offered s.part.topo.params.ringBase).isSome }
        mem := Memory.writeJournal s.mem w } := by
  subst part
  simp only [State.wordComplete, word]
  rfl

end

theorem Journal.wordDone_next {j : Journal} {ix nx : RecordWordIx} (k : Nat) (now : Word) (writing : j.writing = some ix)
    (next : ix.next = some nx) : j.wordDone k now = { j with writing := some nx } := by
  simp only [Journal.wordDone, writing, next]

theorem Journal.offered_isSome (j : Journal) (base : Addr) (ix : RecordWordIx) (writing : j.writing = some ix) :
    (j.offered base).isSome = decide (j.queue ≠ []) := by
  cases queue : j.queue with
  | nil => simp [Journal.offered, queue]
  | cons r rest => simp [Journal.offered, writing, queue]

/-- The HALT record has been written (R163). -/
theorem Journal.wordDone_halt {j : Journal} {r : JRecord} {rest : List JRecord} (k : Nat) (now : Word)
    (w0 : j.writing = some .w0) (queue : j.queue = r :: rest) (kind : r.detail.isHalt = true) :
    j.wordDone k now = (j.leaves k r rest).stop := by
  simp only [Journal.wordDone, w0, RecordWordIx.next, Journal.recordDone, queue, kind, if_true]

theorem Journal.enterHalt_none {j : Journal} (now : Word) (none : j.halt = .none) : j.enterHalt now = j := by
  simp only [Journal.enterHalt, none]

theorem Journal.enterHalt_pending {j : Journal} {sum : BitVec 16} {dropped : Nat} (now : Word)
    (pending : j.halt = .pending sum dropped) (place : j.queue.length < 16) :
    j.enterHalt now = { j.enter now (.halt sum dropped) with halt := .none } := by
  simp only [Journal.enterHalt, pending]
  exact if_pos (Journal.hasPlace_iff.mpr place)

theorem Journal.enterHalt_keeps (j : Journal) (now : Word) :
    (j.enterHalt now).writing = j.writing ∧ (j.enterHalt now).lastSeq = j.lastSeq ∧
      (j.enterHalt now).active = j.active := by
  unfold Journal.enterHalt
  split
  · split <;> exact ⟨rfl, rfl, rfl⟩
  · exact ⟨rfl, rfl, rfl⟩

/-- The start of a write, with what it keeps (R157). -/
theorem Journal.startWrite_eq (j : Journal) (k : Nat) :
    j.startWrite k =
      { j with writing := if j.active = true ∧ j.writing = none ∧ j.queue ≠ [] ∧ 0 < j.space k then some .w1
        else j.writing } := by
  unfold Journal.startWrite
  split_ifs <;> rfl

theorem State.exec_haltPendingEntry {s : State} {w : JournalWord} (up : s.up) (word : s.path.jword = some w)
    (w0 : s.part.jrnl.writing = some .w0) {sum : BitVec 16} {dropped : Nat}
    (pending : s.part.jrnl.halt = .pending sum dropped) : exec .haltPendingEntry s = .next s.wordComplete := by
  refine (State.powered_up _ _ up).trans (congrArg _ (if_pos ?_))
  simp only [State.freesHaltPlace, word, w0, pending]
  rfl

/-- Settles O48: the four words of a record in turn, and what JRNL does when the last has reached the ring. -/
theorem recordReachesRing : Obligations.RecordReachesRing := by
  intro s k up ek
  subst ek
  refine ⟨fun w a out => ?_, fun w i lt => ?_, fun active idle some_ space => ?_, fun w ix nx word writing next => ?_,
    fun w r rest word w0 queue => ?_⟩
  · exact Memory.byte?_writeLanes_other _ _ _ _ _ fun i hi => out i (mem_allLanes.mp hi)
  · exact Memory.byte?_writeLanes_same _ _ _ _ (fun _ => mem_allLanes.mp) i (mem_allLanes.mpr lt)
  · refine (State.powered_up _ _ up).trans ?_
    rw [Journal.startWrite, if_pos ⟨active, idle, some_, space⟩]
    rfl
  · have next : ix.next = some nx := by
      simp only [List.mem_cons, Prod.mk.injEq, List.not_mem_nil, or_false] at next
      obtain ⟨rfl, rfl⟩ | ⟨rfl, rfl⟩ | ⟨rfl, rfl⟩ := next <;> rfl
    refine (State.powered_up _ _ up).trans (congrArg _ ?_)
    rw [State.wordComplete_eq word _ rfl, Journal.wordDone_next _ _ writing next]
    have offered := Journal.offered_isSome { s.part.jrnl with writing := some nx } s.part.topo.params.ringBase nx rfl
    simp only [Part.setJrnl, offered]
  · generalize ep : s.part.setJrnl (s.part.jrnl.wordDone s.part.topo.params.ringCode s.part.tbase.ms) = p
    have done := State.wordComplete_eq word p ep.symm
    have jrnl : p.jrnl = s.part.jrnl.wordDone s.part.topo.params.ringCode s.part.tbase.ms := ep ▸ rfl
    have halted (kind : r.detail.isHalt = true) :
        p.jrnl = (s.part.jrnl.leaves s.part.topo.params.ringCode r rest).stop :=
      jrnl.trans (Journal.wordDone_halt _ _ w0 queue kind)
    have goesOn (kind : r.detail.isHalt = false) :
        p.jrnl = ((s.part.jrnl.leaves s.part.topo.params.ringCode r rest).enterHalt s.part.tbase.ms).startWrite
          s.part.topo.params.ringCode := jrnl.trans (Journal.wordDone_w0 _ _ w0 queue kind)
    have ring : p.jrnl.producer = (s.part.jrnl.producer + 1) % 2 ^ s.part.topo.params.ringCode ∧
        p.jrnl.lastSeq = r.seq ∧ p.jrnl.consumer = s.part.jrnl.consumer := by
      cases kind : r.detail.isHalt with
      | true => rw [halted kind]; exact ⟨rfl, rfl, rfl⟩
      | false =>
        obtain ⟨-, producer, consumer⟩ :=
          (s.part.jrnl.leaves s.part.topo.params.ringCode r rest).enterHalt_startWrite_ring
            s.part.topo.params.ringCode s.part.tbase.ms
        rw [goesOn kind]
        refine ⟨producer, ?_, consumer⟩
        rw [Journal.startWrite_eq]
        exact (Journal.enterHalt_keeps _ _).2.1
    refine ⟨s.wordComplete, State.powered_up _ _ up, ?_⟩
    rw [done]
    refine ⟨ring.1, ring.2.1, ring.2.2, rfl, rfl, ep ▸ rfl, ep ▸ rfl, ep ▸ rfl, ep ▸ rfl, ep ▸ rfl,
      fun sum dropped e => ?_, fun no => ?_, fun no none => ?_, fun sum dropped no pending place => ?_⟩
    · rw [halted (by rw [e]; rfl)]
      exact ⟨rfl, rfl, rfl, rfl⟩
    · rw [goesOn (Detail.isHalt_eq_false no)]
      obtain ⟨writing, -, active⟩ :=
        (s.part.jrnl.leaves s.part.topo.params.ringCode r rest).enterHalt_keeps s.part.tbase.ms
      generalize (s.part.jrnl.leaves s.part.topo.params.ringCode r rest).enterHalt s.part.tbase.ms = q at writing active
      replace writing : q.writing = none := writing
      replace active : q.active = s.part.jrnl.active := active
      rw [Journal.startWrite_eq]
      refine ⟨active, ?_⟩
      simp only [writing, active, true_and]
      rfl
    · rw [goesOn (Detail.isHalt_eq_false no), Journal.enterHalt_none (j := s.part.jrnl.leaves _ r rest) _ none,
        Journal.startWrite_eq]
      exact ⟨rfl, rfl⟩
    · have halt := Journal.enterHalt_pending (j := s.part.jrnl.leaves s.part.topo.params.ringCode r rest)
        s.part.tbase.ms pending place
      refine ⟨?_, ?_, ?_, (State.exec_haltPendingEntry up word w0 pending).trans (congrArg _ done)⟩ <;>
        rw [goesOn (Detail.isHalt_eq_false no), halt, Journal.startWrite_eq] <;> rfl

end Sys2Proof.Machine

/-! SUPPORT. Accesses that PATH keeps, the port, and the two resets (R123, R128, R132 to R135, R161, R168, R169). -/

namespace Sys2Proof.Machine

open Sys2Proof

/-! ### The class of an access by its byte address (R123) -/

section
variable {aps : BitVec 4} {ring : Option RingRegion} {a : WordAddr}

theorem classify_inside (lo : apertureBase aps ≤ 4 * a.toNat) (hi : 4 * a.toNat < apertureBase aps + 0x10000) :
    classify aps ring a = windowClass (4 * a.toNat - apertureBase aps) := if_pos ⟨lo, hi⟩

theorem classify_outside (out : 4 * a.toNat < apertureBase aps ∨ apertureBase aps + 0x10000 ≤ 4 * a.toNat) :
    classify aps ring a = if inRing ring (4 * a.toNat) then .ring else .other :=
  if_neg fun ⟨lo, hi⟩ => out.elim (Nat.not_lt.mpr lo) (Nat.not_le.mpr hi)

theorem inRing_iff (b : Nat) :
    inRing ring b = true ↔ ∃ r : RingRegion, ring = some r ∧ r.base ≤ b ∧ b < r.base + r.size := by
  cases ring with
  | none => simp [inRing]
  | some r => simp [inRing]

theorem windowClass_rest {off : Nat} (h : 0x4000 ≤ off) : windowClass off = .other := by
  rw [windowClass, if_neg (by omega), if_neg (by omega), dif_neg (by omega)]

theorem windowClass_ne_status {off : Nat} (h : 0x1000 ≤ off) (k : Nat) : windowClass off ≠ .status k := by
  rw [windowClass, if_neg (by omega)]
  split_ifs <;> exact nofun

/-- A word outside the status window is none of its words. -/
theorem classify_ne_status (out : 4 * a.toNat < apertureBase aps ∨ apertureBase aps + 0x1000 ≤ 4 * a.toNat) (k : Nat) :
    classify aps ring a ≠ .status k := by
  by_cases inside : apertureBase aps ≤ 4 * a.toNat ∧ 4 * a.toNat < apertureBase aps + 0x10000
  · rw [classify_inside inside.1 inside.2]
    exact windowClass_ne_status (by omega) k
  · rw [classify_outside (by omega)]
    split_ifs <;> exact nofun

/-- A word outside the aperture and the ring region is plain memory. -/
theorem classify_other
    (out : (apertureBase aps + 0x4000 ≤ 4 * a.toNat ∧ 4 * a.toNat < apertureBase aps + 0x10000) ∨
      ((4 * a.toNat < apertureBase aps ∨ apertureBase aps + 0x10000 ≤ 4 * a.toNat) ∧
        ∀ r : RingRegion, ring = some r → 4 * a.toNat < r.base ∨ r.base + r.size ≤ 4 * a.toNat)) :
    classify aps ring a = .other := by
  obtain ⟨lo, hi⟩ | ⟨outside, off⟩ := out
  · rw [classify_inside (by omega) hi, windowClass_rest (by omega)]
  · rw [classify_outside outside, if_neg]
    rw [inRing_iff]
    rintro ⟨r, e, lo, hi⟩
    have := off r e
    omega

end

/-! ### Kept writes -/

/-- A status or ring write is kept (R128). -/
theorem State.present_kept {s : State} (o : s.open_) {a : WordAddr} {l : Lanes} {w : Word} {k : ViolationKind}
    (h : (k = .statusWrite ∧ ∃ off, s.classOf (writeSome a l w) = .status off) ∨
      (k = .ringWrite ∧ s.classOf (writeSome a l w) = .ring)) :
    s.present (writeSome a l w) = s.keep (writeSome a l w) k := by
  have accept : s.accept (writeSome a l w) = s.acceptWrite (writeSome a l w) := if_pos rfl
  rw [State.present_open _ _ o, accept, State.acceptWrite]
  obtain ⟨rfl, off, e⟩ | ⟨rfl, e⟩ := h <;> simp only [e]

/-- Settles O43. -/
theorem keptWriteNeverReachesMemory : Obligations.KeptWriteNeverReachesMemory := by
  intro a lanes data s k o place
  have kept : exec (.keptWrite a lanes data) s = .next
      ((s.withPart (s.part.record s.part.tbase.ms (.violation (BitVec.ofNat 24 (4 * a.toNat)) k))).complete
        { addr := a, write := true, bytes := [] }) := by
    refine (State.powered_up _ _ o.1).trans (congrArg _ ((State.present_kept (k := k) o ?_).trans rfl))
    obtain ⟨rfl, lo, hi⟩ | ⟨rfl, out, r, e, lo, hi⟩ := place
    · refine .inl ⟨rfl, 4 * a.toNat - apertureBase s.path.aps, ?_⟩
      refine (classify_inside lo (by omega)).trans ?_
      rw [windowClass, if_pos (by omega)]
    · refine .inr ⟨rfl, (classify_outside out).trans (if_pos ?_)⟩
      exact (inRing_iff _).mpr ⟨r, e, lo, hi⟩
  refine ⟨fun counts => ?_, fun mode => ?_⟩
  · rw [kept, counts.counts.record_eq]
    rfl
  · rw [kept, Part.record_none _ _ _ (.inl mode)]
    rfl

/-! ### The word offered -/

theorem Detail.kindCode_lt (d : Detail) : d.kindCode < 256 := by
  cases d <;> simp only [Detail.kindCode] <;> decide

theorem Journal.offered_of_writing {j : Journal} {ix : RecordWordIx} {r : JRecord} {rest : List JRecord} (base : Addr)
    (queue : j.queue = r :: rest) (writing : j.writing = some ix) :
    j.offered base = some { addr := j.wordAddr base ix, data := r.word ix } :=
  (j.offered_eq_some base _).mpr ⟨ix, r, rest, writing, queue, rfl⟩

/-! ### The arbiter -/

section
variable {s : State}

theorem State.exec_portGrant (up : s.up) (a : Option Access) (c : Claimant) :
    exec (.portGrant ⟨a, c⟩) s = .next (s.portGrant a c) := State.powered_up _ _ up

/-- An access that arrives is presented, and the arbiter decides then (R133). -/
theorem State.portGrant_some (a : Access) (c : Claimant) : s.portGrant (some a) c = (s.present a).portGrant none c := rfl

theorem State.portFree_of_idle (word : s.path.jword = none) (idle : s.path.flight.any Flight.holds = false) :
    s.path.portFree = true := s.path.portFree_iff.mpr ⟨word, idle⟩

theorem Path.startProcessor_eq {x : Path} {f : Flight} (flight : x.flight = some f) :
    x.startProcessor =
      { x with flight := some { f with holds := true }, accessWaited := false, wordWaited := false } := by
  simp only [Path.startProcessor, flight, Option.map_some]
  rfl

theorem Path.grant_access {x : Path} {f : Flight} (flight : x.flight = some f) (c : Claimant) :
    x.grant none c = x.startProcessor := by
  simp only [Path.grant, flight]

theorem Path.grant_word {x : Path} (none : x.flight = none) (w : JournalWord) (c : Claimant) :
    x.grant (some w) c = x.startJournal w := by
  simp only [Path.grant, none]

/-- The arbiter at a free port (R133). -/
theorem State.exec_portGrant_free (up : s.up) (word : s.path.jword = none)
    (idle : s.path.flight.any Flight.holds = false) (c : Claimant) :
    exec (.portGrant ⟨none, c⟩) s = .next { s with path := s.path.grant s.part.offered c } := by
  rw [State.exec_portGrant up, State.portGrant_none, Path.arbitrate_free _ _ _ (State.portFree_of_idle word idle)]

/-- Two claimants at a free port (R133, R134). -/
theorem State.exec_portGrant_both (up : s.up) {f : Flight} {x : JournalWord} (word : s.path.jword = none)
    (flight : s.path.flight = some f) (waits : f.holds = false) (offer : s.part.offered = some x) (c : Claimant) :
    exec (.portGrant ⟨none, c⟩) s = .next { s with path := s.path.grantBoth x c } := by
  rw [State.exec_portGrant_free up word (by rw [flight]; exact waits), offer]
  simp only [Path.grant, flight]

/-- An access of no window but plain memory is passed (R124, R125). -/
theorem State.accept_other {a : Access}
    (out : (a.write = false ∧
        (4 * a.addr.toNat < apertureBase s.path.aps ∨ apertureBase s.path.aps + 0x1000 ≤ 4 * a.addr.toNat)) ∨
      (a.write = true ∧
        ((apertureBase s.path.aps + 0x4000 ≤ 4 * a.addr.toNat ∧
            4 * a.addr.toNat < apertureBase s.path.aps + 0x10000) ∨
          ((4 * a.addr.toNat < apertureBase s.path.aps ∨ apertureBase s.path.aps + 0x10000 ≤ 4 * a.addr.toNat) ∧
            ∀ r : RingRegion, s.part.topo.ring = some r →
              4 * a.addr.toNat < r.base ∨ r.base + r.size ≤ 4 * a.addr.toNat)))) :
    s.accept a = s.pass a := by
  obtain ⟨read, out⟩ | ⟨write, out⟩ := out
  · rw [State.accept, if_neg (by rw [read]; decide), State.acceptRead]
    split
    · rename_i off e
      exact absurd e (classify_ne_status out off)
    · rfl
  · have other : s.classOf a = .other := classify_other out
    rw [State.accept, if_pos write, State.acceptWrite, other]

end

/-- Settles O45: the table of R133 and R134, and the access that arrives. -/
theorem portGrantFollowsWaitCount : Obligations.PortGrantFollowsWaitCount := by
  intro s w first up ew
  have offer : s.part.offered = w := ew.symm
  refine ⟨fun r rest queue => ⟨fun w1 => ?_, fun w0 => ?_, fun w2 => ?_, fun w3 => ?_, fun no => ?_⟩, fun busy => ?_,
    fun word access none => ?_, fun f word flight waits none => ?_, fun x word access e => ?_,
    fun f x a b word flight waits e ea eb => ?_, fun a off free out => ?_, fun a off flies => ⟨fun empty => ?_,
    fun full => ?_⟩, fun a on => ?_⟩
  · rw [ew, Journal.offered_of_writing _ queue w1]
    rfl
  · refine ⟨_, ew.trans (Journal.offered_of_writing _ queue w0), rfl, ?_⟩
    have := r.detail.kindCode_lt
    simp only [JRecord.word, toNat_append_add, BitVec.toNat_ofNat]
    omega
  · rw [ew, Journal.offered_of_writing _ queue w2]
    rfl
  · rw [ew, Journal.offered_of_writing _ queue w3]
    rfl
  · rw [ew, Journal.offered_eq_none _ no]
  · have taken : s.path.portFree = false := by
      rw [← Bool.not_eq_true, s.path.portFree_iff]
      rintro ⟨word, idle⟩
      rw [word, idle] at busy
      exact busy.elim nofun nofun
    rw [State.exec_portGrant up, State.portGrant_none, Path.arbitrate_busy _ _ _ taken]
  · rw [State.exec_portGrant_free up word (by rw [access]; rfl), offer, none]
    simp only [Path.grant, access]
  · rw [State.exec_portGrant_free up word (by rw [flight]; exact waits), offer, none,
      Path.grant_access flight, Path.startProcessor_eq flight]
  · rw [State.exec_portGrant_free up word (by rw [access]; rfl), offer, e, Path.grant_word access]
    rfl
  · subst ea eb
    have both := State.exec_portGrant_both up word flight waits (offer.trans e) first
    have goesFirst := Path.startProcessor_eq flight
    refine ⟨fun waited other => ⟨fun lt => ?_, fun le => ?_⟩, fun waited other k => ?_, fun waited other => ?_,
      fun waited other => ⟨fun k => ?_, fun k => ?_⟩⟩
    · rw [both, Path.grantBoth_count _ _ _ waited other, Path.grantByCount, goesFirst]
      exact congrArg (fun q => Host.Outcome.next { s with path := q }) (if_pos lt)
    · rw [both, Path.grantBoth_count _ _ _ waited other, Path.grantByCount]
      exact congrArg (fun q => Host.Outcome.next { s with path := q }) (if_neg (Nat.not_lt.mpr le))
    · rw [both, k, Path.grantBoth_word _ _ other]
      rfl
    · rw [both, Path.grantBoth_access _ _ _ waited (.inl other), goesFirst]
    · rw [both, Path.grantBoth_access _ _ _ waited (.inr k), goesFirst]
    · rw [both, k, Path.grantBoth_word _ _ other]
      rfl
  · have arrive : s.present a = s.pass a := (State.present_open _ _ ⟨up, off, free⟩).trans (State.accept_other out)
    rw [State.exec_portGrant up, State.portGrant_some, arrive]
    exact (State.exec_portGrant (s := s.pass a) up none first).symm
  · have arrive := s.present_waits a off flies empty
    refine ⟨?_, fun write => ?_⟩
    · rw [State.exec_portGrant up, State.portGrant_some, arrive]
      exact (State.exec_portGrant (s := { s with path := { s.path with waiting := some a } }) up none first).symm
    · have same : writeSome a.addr a.lanes a.data = a := by
        rw [writeSome, ← write]
      refine (State.powered_up _ _ up).trans ?_
      rw [same, arrive]
  · refine ⟨?_, (State.powered_up _ _ up).trans (congrArg _ (s.present_lost _ flies full))⟩
    rw [State.exec_portGrant up, State.exec_portGrant up, State.portGrant_some, s.present_lost a flies full]
  · rw [State.exec_portGrant up, State.exec_portGrant up, State.portGrant_some, s.present_cpurst a on]

end Sys2Proof.Machine

/-! SUPPORT. The two resets (R135, R161, R168, R169). -/

namespace Sys2Proof.Machine

open Sys2Proof

/-! ### PORST -/

section
variable {s : State}

/-- Under PORST no command but those of the reset lines has an effect (R168). -/
theorem exec_down (down : s.path.porst = true) (c : Instr) (hc : isReset c = false) : exec c s = .next s := by
  cases c with
  | porstAssert | porstRelease | cpurstAssert | cpurstRelease => cases hc
  | _ => exact State.powered_down _ _ down

theorem State.porstOn_of_up (up : s.up) :
    s.porstOn = { s.cutWords with part := s.part.abandon, path := s.path.abandon } := if_neg (by rw [up]; decide)

theorem State.cutWords_of_none (no : s.path.cutWrite = none) : s.cutWords = s := by
  simp only [State.cutWords, no]

theorem State.cutWords_of_some {base : Nat} {lanes : List Nat} (cut : s.path.cutWrite = some (base, lanes)) :
    s.cutWords.mem = Memory.cutLanes s.mem s.cuts base lanes := by
  simp only [State.cutWords, cut]

/-- A cut write leaves every other byte as it was (R168). -/
theorem State.byte?_cutWords {base : Nat} {lanes : List Nat} (cut : s.path.cutWrite = some (base, lanes)) (a : Nat)
    (out : ∀ i ∈ lanes, (base + i) % 2 ^ 24 ≠ a) : Memory.byte? s.cutWords.mem a = Memory.byte? s.mem a := by
  rw [State.cutWords_of_some cut]
  exact Memory.byte?_writeLanes_other _ _ _ _ _ out

end

theorem Path.cutWrite_word {x : Path} {w : JournalWord} (word : x.jword = some w) :
    x.cutWrite = some (w.addr.toNat, [0, 1, 2, 3]) := by
  simp only [Path.cutWrite, word]

theorem Path.cutWrite_flight {x : Path} {f : Flight} (word : x.jword = none) (flight : x.flight = some f) :
    x.cutWrite =
      if f.holds && f.access.write then some (byteAddr f.access.addr, lanesOf f.access.lanes) else none := by
  simp only [Path.cutWrite, word, flight]

theorem Path.cutWrite_none {x : Path} (word : x.jword = none)
    (reads : ∀ f : Flight, x.flight = some f → f.holds = false ∨ f.access.write = false) : x.cutWrite = none := by
  cases flight : x.flight with
  | none => simp only [Path.cutWrite, word, flight]
  | some f =>
    rw [Path.cutWrite_flight word flight, if_neg]
    obtain k | k := reads f flight <;> simp [k]

/-- Settles O50. -/
theorem powerOnReset : Obligations.PowerOnReset := by
  intro s
  refine ⟨fun up => ?_, fun down => ⟨fun c no other => ?_, fun aps la lb => ?_⟩⟩
  · refine ⟨_, congrArg Host.Outcome.next (State.porstOn_of_up up), rfl, rfl, rfl, rfl, rfl, fun h y => rfl, rfl, rfl, rfl,
      rfl, fun ⟨word, reads⟩ => ?_, fun w word a out => ?_, fun f word flight a out => ?_⟩
    · show s.cutWords.mem = s.mem
      rw [State.cutWords_of_none (Path.cutWrite_none word reads)]
    · exact State.byte?_cutWords (Path.cutWrite_word word) a fun i hi => out i (mem_allLanes.mp hi)
    · have cut := Path.cutWrite_flight word flight
      by_cases writes : (f.holds && f.access.write) = true
      · rw [if_pos writes] at cut
        exact State.byte?_cutWords cut a out
      · rw [if_neg writes] at cut
        show Memory.byte? s.cutWords.mem a = _
        rw [State.cutWords_of_none cut]
  · refine exec_down down c ?_
    rw [← Bool.not_eq_true, isReset_iff]
    rintro (rfl | ⟨aps, la, lb, rfl⟩ | rfl | rfl)
    · exact no (by simp)
    · exact other aps la lb rfl
    · exact no (by simp)
    · exact no (by simp)
  · have off : s.porstOff aps la lb =
        { s with part := Part.powerOn la lb s.part.gen.serial, path := Path.powerOn aps s.path.cpurst } := if_pos down
    refine ⟨_, congrArg Host.Outcome.next off, rfl, rfl, rfl, rfl, rfl, rfl, rfl, rfl, fun h => ?_, fun i => ?_,
      fun h => ?_, rfl, rfl, rfl, rfl, fun n => ?_, rfl, rfl⟩
    · exact Part.powerOn_hdec_get _ _ _ h
    · exact Part.powerOn_scnt_get _ _ _ i
    · exact Part.powerOn_supv_get _ _ _ h
    · exact Part.powerOn_slots_get _ _ _ n

/-! ### CPURST -/

/-- Settles O51: no access is accepted under CPURST. -/
theorem processorReset : Obligations.ProcessorReset := by
  intro s up
  refine ⟨fun off => ?_, fun on c processor => ?_, rfl⟩
  · refine congrArg Host.Outcome.next ?_
    rw [State.cpurstOn, if_neg (by rw [off]; decide), if_neg (by rw [up]; decide), Path.processorReset]
    cases s.path.flight <;> rfl
  · have ignored (a : Access) : s.powered (s.present a) = .next s :=
      (State.powered_up _ _ up).trans (congrArg _ (s.present_cpurst a on))
    obtain ⟨n, t, o, k, h⟩ | ⟨n, v, t, o, k, rfl⟩ | ⟨n, l, w, h⟩ | ⟨v, rfl⟩ | ⟨i, l, w, rfl⟩ | ⟨v, rfl⟩ |
      ⟨a, l, w, rfl⟩ := processor
    · simp only [List.mem_cons, List.not_mem_nil, or_false] at h
      obtain rfl | rfl | rfl | rfl | rfl := h <;> exact ignored _
    · exact ignored _
    · simp only [List.mem_cons, List.not_mem_nil, or_false] at h
      obtain rfl | rfl := h <;> exact ignored _
    · exact ignored _
    · exact ignored _
    · exact ignored _
    · exact ignored _

end Sys2Proof.Machine

/-! SUPPORT. What a score event leaves in every block, and the failure of a head (R17, R44, R74, R76, R77, R80). -/

namespace Sys2Proof.Machine

open Sys2Proof

/-! ### The failure of a head -/

/-- The head has failed by the change from `v` to `w` (R80). -/
def HeadHealth.fails (v w : HeadHealth) : Prop := w.health = .failed ∧ v.health ≠ .failed


section
variable (p : Part) (now : Word) (h : HeadId)

theorem Part.headFails_hdec_get (g : HeadId) :
    (p.headFails now h).hdec[g] = if h = g then p.hdec[h].off else p.hdec[g] := by
  have hdec : (p.headFails now h).hdec = (p.setHdec h p.hdec[h].toOff).hdec := by
    simp [Part.headFails, Part.headOff, Part.staleReports]
  rw [hdec, Part.setHdec_get]
  rfl

theorem Part.headFails_scnt_get (two : p.twoSections h) (i : SectionId) (hi : i ∈ p.adjacent h) :
    (p.headFails now h).scnt[i] = p.scnt[i].disturbed .headFailed := by
  have topo : ((p.staleReports h).headOff now h).topo = p.topo := by simp
  have k := ((p.staleReports h).headOff now h).disturbAdjacent_get now h .headFailed
    ((Part.twoSections_congr h topo).mpr two) i (Part.adjacent_congr h topo ▸ hi)
  rw [Part.headFails, k, Part.headOff_scnt]
  rfl

theorem Part.headFails_scnt_get_other (i : SectionId) (hi : i ∉ p.adjacent h) :
    (p.headFails now h).scnt[i] = p.scnt[i] := by
  have topo : ((p.staleReports h).headOff now h).topo = p.topo := by simp
  have k := ((p.staleReports h).headOff now h).disturbAdjacent_get_other now h .headFailed i
    (Part.adjacent_congr h topo ▸ hi)
  rw [Part.headFails, k, Part.headOff_scnt]
  rfl

theorem Part.headFails_slots_get (n : SlotId) : (p.headFails now h).slots[n] = p.slotDisturbed h n := by
  rw [Part.headFails, Part.disturbAdjacent_slots_get]
  exact Part.slotDisturbed_congr h (by simp) (by simp) (by simp) n

theorem Part.headFails_sent :
    (p.headFails now h).sent =
      { p.sent with
        supv := p.sent.supv.filter fun m => decide (m.head ≠ h)
        stale := p.sent.stale ++ p.sent.supv.filter fun m => decide (m.head = h) } := by
  simp [Part.headFails, Part.headOff, Part.staleReports]

/-- The records of a failure (R14, R44; log entry 23). -/
theorem Part.Counts.headFails_jrnl {p : Part} (c : p.Counts) (two : p.twoSections h) :
    (p.headFails now h).jrnl = p.failureJournal now h p.jrnl := by
  have off : ((p.staleReports h).setHdec h (p.staleReports h).hdec[h].toOff).Counts := c.congr rfl rfl
  have c' : ((p.staleReports h).headOff now h).Counts := off.standingEnd now h _
  rw [Part.headFails, c'.disturbAdjacent_jrnl now h .headFailed ((Part.twoSections_congr h (by simp)).mpr two),
    Part.disturbJournal_congr (p := p) (by simp) (by simp) (by simp), Part.failureJournal, Part.headOff,
    off.standingEnd_jrnl]
  rfl

end

theorem Part.logs_headFails (p : Part) (now : Word) (h : HeadId) : p.Logs (p.headFails now h) :=
  ((logs_of_same ⟨rfl, rfl⟩ : p.Logs (p.staleReports h)).trans (Part.logs_headOff _ now h)).trans
    (Part.logs_disturbAdjacent _ now h .headFailed)

/-! ### A score event, or none -/

/-- A score event that may be absent (R71, R74). -/
def Part.scoreOn (p : Part) (now : Word) (h : HeadId) (e : Option (ScoreChange × Trigger)) (y : Option System) : Part :=
  match e with
  | none => p
  | some e => p.scoreEvent now h e.1 e.2 y

theorem Part.scanSystem_eq (p : Part) (now : Word) (h : HeadId) (y : System) (c : AmpClass) :
    p.scanSystem now h y c = p.scoreOn now h (scanEvent c (p.hdec[h].sensor y) p.tbase.us) (some y) := rfl

/-- The blocks `q` after SUPV has changed the record of head `h`: where that fails the head, all that a failure does
(R80); otherwise no other block changes. -/
structure Part.HealthMoved (p : Part) (h : HeadId) (q : Part) : Prop where
  others : ∀ g : HeadId, g ≠ h → q.supv[g] = p.supv[g] ∧ q.hdec[g] = p.hdec[g]
  stays : p.supv[h].health = .failed → q.supv[h].health = .failed
  holds : ¬ p.supv[h].fails q.supv[h] → q.hdec = p.hdec ∧ q.scnt = p.scnt ∧ q.slots = p.slots ∧ q.sent = p.sent
  off : p.supv[h].fails q.supv[h] → q.hdec[h] = p.hdec[h].off
  beside : p.supv[h].fails q.supv[h] → p.twoSections h →
    ∀ i ∈ p.adjacent h, q.scnt[i] = p.scnt[i].disturbed .headFailed
  away : ∀ i : SectionId, i ∉ p.adjacent h → q.scnt[i] = p.scnt[i]
  slots : p.supv[h].fails q.supv[h] → ∀ n : SlotId, q.slots[n] = p.slotDisturbed h n
  sent : p.supv[h].fails q.supv[h] →
    q.sent =
      { p.sent with
        supv := p.sent.supv.filter fun m => decide (m.head ≠ h)
        stale := p.sent.stale ++ p.sent.supv.filter fun m => decide (m.head = h) }
  frame : q.gen = p.gen ∧ q.topo = p.topo ∧ q.tbase = p.tbase ∧ q.ticks = p.ticks ∧ q.jrnl.active = p.jrnl.active

/-- The blocks `q` after a score event at head `h` of the blocks `p`. -/
structure Part.ScoredBy (p : Part) (now : Word) (h : HeadId) (e : Option (ScoreChange × Trigger)) (y : Option System)
    (q : Part) : Prop extends p.HealthMoved h q where
  supv : q.supv[h] = p.supv[h].scored e
  silent : q.supv[h].health = p.supv[h].health → q.jrnl = p.jrnl
  jrnl : p.Counts → (p.supv[h].fails q.supv[h] → p.twoSections h) →
    q.jrnl = p.scoreJournal now h e y p.supv[h] q.supv[h] p.jrnl

theorem HeadHealth.scored_of_out {v : HeadHealth} {c : ScoreChange} (t : Trigger)
    (out : v.health.inService = false ∨ c.apply v.score = v.score) : v.scored (some (c, t)) = v := by
  refine if_neg fun ⟨serv, new⟩ => out.elim (fun k => ?_) new
  rw [k] at serv
  cases serv

theorem HeadHealth.scored_of_new {v : HeadHealth} {c : ScoreChange} (t : Trigger) (serv : v.health.inService = true)
    (new : c.apply v.score ≠ v.score) : v.scored (some (c, t)) = v.withScore (c.apply v.score) := if_pos ⟨serv, new⟩

section
variable (p : Part) (now : Word) (h : HeadId) (y : Option System)

/-- A score event that leaves the record as it is leaves everything. -/
theorem Part.scoredBy_self (e : Option (ScoreChange × Trigger)) (same : p.supv[h].scored e = p.supv[h]) :
    p.ScoredBy now h e y p := by
  have no : ¬ p.supv[h].fails p.supv[h] := fun k => k.2 k.1
  refine ⟨⟨fun _ _ => ⟨rfl, rfl⟩, id, fun _ => ⟨rfl, rfl, rfl, rfl⟩, fun k => absurd k no, fun k => absurd k no,
    fun _ _ => rfl, fun k => absurd k no, fun k => absurd k no, rfl, rfl, rfl, rfl, rfl⟩, same.symm, fun _ => rfl,
    fun _ _ => ?_⟩
  cases e with
  | none => rfl
  | some e => exact (if_pos rfl).symm

/-- A change of the record that does not fail the head: the HEAD record where the health changes (R76, R77). -/
theorem Part.scoredBy_setSupv (c : ScoreChange) (t : Trigger) (w : HeadHealth) (q : Part)
    (scored : p.supv[h].scored (some (c, t)) = w) (nf : ¬ p.supv[h].fails w)
    (eq : q = if w.health = p.supv[h].health then p.setSupv h w
      else (p.setSupv h w).record now (.head h p.supv[h].health w.health w.score t y)) :
    p.ScoredBy now h (some (c, t)) y q := by
  have kept : q.supv = (p.setSupv h w).supv ∧ q.hdec = p.hdec ∧ q.scnt = p.scnt ∧ q.slots = p.slots ∧
      q.sent = p.sent ∧ q.gen = p.gen ∧ q.topo = p.topo ∧ q.tbase = p.tbase ∧ q.ticks = p.ticks ∧
      q.jrnl.active = p.jrnl.active := by
    subst eq
    split_ifs <;> simp
  obtain ⟨supv, hdec, scnt, slots, sent, frame⟩ := kept
  have new : q.supv[h] = w := by rw [supv, Part.setSupv_get, if_pos rfl]
  refine ⟨⟨fun g ne => ⟨?_, by rw [hdec]⟩, fun old => ?_, fun _ => ⟨hdec, scnt, slots, sent⟩,
    fun f => absurd (new ▸ f) nf, fun f => absurd (new ▸ f) nf, fun i _ => by rw [scnt], fun f => absurd (new ▸ f) nf,
    fun f => absurd (new ▸ f) nf, frame⟩, new.trans scored.symm, fun same => ?_, fun k _ => ?_⟩
  · rw [supv, Part.setSupv_get, if_neg ne.symm]
  · rw [new, ← scored, HeadHealth.scored_of_out t (.inl (by rw [old]; rfl))]
    exact old
  · rw [new] at same
    rw [eq, if_pos same]
    rfl
  · rw [new, eq]
    by_cases same : w.health = p.supv[h].health
    · rw [if_pos same]
      exact (if_pos same).symm
    · have alive : w.health ≠ .failed := fun f => nf ⟨f, fun old => same (f.trans old.symm)⟩
      have k' : (p.setSupv h w).Counts := k.congr rfl rfl
      rw [if_neg same, k'.record_jrnl]
      exact ((if_neg same).trans (if_neg alive)).symm

/-- A change of the record that fails the head (R80). -/
theorem Part.scoredBy_headFails (c : ScoreChange) (t : Trigger) (w : HeadHealth)
    (scored : p.supv[h].scored (some (c, t)) = w) (f : p.supv[h].fails w) :
    p.ScoredBy now h (some (c, t)) y
      (((p.setSupv h w).record now (.head h p.supv[h].health .failed w.score t y)).headFails now h) := by
  obtain ⟨failed, alive⟩ := f
  generalize er : (p.setSupv h w).record now (.head h p.supv[h].health .failed w.score t y) = r
  have kept : r.supv = (p.setSupv h w).supv ∧ r.hdec = p.hdec ∧ r.scnt = p.scnt ∧ r.slots = p.slots ∧
      r.sent = p.sent ∧ r.gen = p.gen ∧ r.topo = p.topo ∧ r.tbase = p.tbase ∧ r.ticks = p.ticks ∧
      r.jrnl.active = p.jrnl.active := by
    subst er
    simp
  obtain ⟨supv, hdec, scnt, slots, sent, gen, topo, tbase, ticks, active⟩ := kept
  obtain ⟨supv', gen', topo', tbase', ticks'⟩ := r.headFails_frame now h
  have new : (r.headFails now h).supv[h] = w := by rw [supv', supv, Part.setSupv_get, if_pos rfl]
  have fails : p.supv[h].fails (r.headFails now h).supv[h] := new ▸ ⟨failed, alive⟩
  refine ⟨⟨fun g ne => ⟨?_, ?_⟩, fun old => absurd old alive, fun no => absurd fails no, fun _ => ?_,
    fun _ two i hi => ?_, fun i hi => ?_, fun _ n => ?_, fun _ => ?_, gen'.trans gen, topo'.trans topo,
    tbase'.trans tbase, ticks'.trans ticks, ?_⟩, new.trans scored.symm, fun same => ?_, fun k two => ?_⟩
  · rw [supv', supv, Part.setSupv_get, if_neg ne.symm]
  · rw [Part.headFails_hdec_get, if_neg ne.symm, hdec]
  · rw [Part.headFails_hdec_get, if_pos rfl, hdec]
  · rw [r.headFails_scnt_get now h ((Part.twoSections_congr h topo).mpr two) i
      ((Part.adjacent_congr h topo).symm ▸ hi), scnt]
  · rw [r.headFails_scnt_get_other now h i ((Part.adjacent_congr h topo).symm ▸ hi), scnt]
  · rw [Part.headFails_slots_get, Part.slotDisturbed_congr h topo scnt slots]
  · rw [Part.headFails_sent, sent]
  · exact (r.logs_headFails now h).jrnl.keeps.1.trans active
  · rw [new] at same
    exact absurd (same.symm.trans failed) alive
  · have k' : (p.setSupv h w).Counts := k.congr rfl rfl
    have kr : r.Counts := er ▸ k'.record now _
    have differs : ¬ w.health = p.supv[h].health := fun e => alive (e.symm.trans failed)
    have jrnl : r.jrnl = p.jrnl.take p.topo.params.ringCode now (.head h p.supv[h].health w.health w.score t y) := by
      rw [← er, k'.record_jrnl, failed]
      rfl
    rw [kr.headFails_jrnl now h ((Part.twoSections_congr h topo).mpr (two fails)), new, jrnl]
    have fail : r.failureJournal now h = p.failureJournal now h := by
      funext j
      simp only [Part.failureJournal, Part.disturbJournal_congr topo scnt slots, hdec, topo]
    rw [fail]
    exact ((if_neg differs).trans (if_pos failed)).symm

theorem Part.scoredBy_scoreOn (e : Option (ScoreChange × Trigger)) :
    p.ScoredBy now h e y (p.scoreOn now h e y) := by
  cases e with
  | none => exact p.scoredBy_self now h y none rfl
  | some e =>
    obtain ⟨c, t⟩ := e
    have k := p.scored_scoreEvent now h c t y
    rw [Part.scoreOn]
    generalize p.scoreEvent now h c t y = q at k ⊢
    cases k with
    | discarded out => exact p.scoredBy_self now h y _ (HeadHealth.scored_of_out t out)
    | same serv new eq =>
      refine p.scoredBy_setSupv now h y c t _ _ (HeadHealth.scored_of_new t serv new) (fun f => ?_) (if_pos eq).symm
      exact f.2 (eq.symm.trans f.1)
    | changed serv new ne nf =>
      exact p.scoredBy_setSupv now h y c t _ _ (HeadHealth.scored_of_new t serv new) (fun f => nf f.1) (if_neg ne).symm
    | failed serv new f =>
      have k := p.scoredBy_headFails now h y c t _ (HeadHealth.scored_of_new t serv new) ⟨f, fun k => ?_⟩
      · exact k
      · rw [k] at serv
        cases serv

end

end Sys2Proof.Machine

/-! SUPPORT. The score reports that SUPV takes (R74, R75, R80, R91, R92). -/

namespace Sys2Proof.Machine

open Sys2Proof

/-- The blocks when SUPV has the report in hand: that of a test clears report pending too (R92). -/
def Part.inHand (p : Part) (test : Bool) : Part := if test = true then p.reportTaken else p

section
variable (p : Part) (test : Bool)

theorem Part.inHand_frame :
    (p.inHand test).hdec = p.hdec ∧ (p.inHand test).scnt = p.scnt ∧ (p.inHand test).supv = p.supv ∧
      (p.inHand test).slots = p.slots ∧ (p.inHand test).jrnl = p.jrnl ∧ (p.inHand test).topo = p.topo ∧
      (p.inHand test).tbase = p.tbase ∧ (p.inHand test).sent = p.sent := by
  cases test <;> exact ⟨rfl, rfl, rfl, rfl, rfl, rfl, rfl, rfl⟩

theorem Part.inHand_gen : (p.inHand test).gen = if test = true then { p.gen with reportPending := false } else p.gen := by
  cases test <;> rfl

end

/-- The command `c` gives SUPV the report `m`, a score event of head `h` (R75). -/
def Reports (c : Instr) (m : ToSupv) (h : HeadId) (e : ScoreChange) (g : Trigger) (test : Bool) : Prop :=
  ∀ s : State, exec c s = s.takeSupv m h e g (·.inHand test)

section
variable {c : Instr} {m : ToSupv} {h : HeadId} {e : ScoreChange} {g : Trigger} {test : Bool} {s : State}

theorem reports_of_mem
    (hc : (c, m, e, g, test) ∈
      [(.separationFaultReport h, .separationFault h, .up 32, .separation, false),
        (.glitchReport h, .glitch h, .up 8, .glitch, false),
        (.cleanPassageReport h, .cleanPassage h, .down 1, .cleanPassage, false),
        (.testPassedReport h, .testPassed h, .down 16, .testPass, true),
        (.testFailedReport h, .testFailed h, .up 64, .testFail, true)]) : Reports c m h e g test := by
  simp only [List.mem_cons, Prod.mk.injEq, List.not_mem_nil, or_false] at hc
  obtain ⟨rfl, rfl, rfl, rfl, rfl⟩ | ⟨rfl, rfl, rfl, rfl, rfl⟩ | ⟨rfl, rfl, rfl, rfl, rfl⟩ | ⟨rfl, rfl, rfl, rfl, rfl⟩ |
    ⟨rfl, rfl, rfl, rfl, rfl⟩ := hc <;> exact fun _ => rfl

/-- A report that SUPV takes is a score event in RUNNING, and none outside it (R74, R91). -/
theorem Reports.taken (r : Reports c m h e g test) (up : s.up) (sent : m ∈ s.part.sent.supv)
    (fresh : m ∉ s.part.sent.stale) (phase : s.part.hdec[h].phase ≠ .test) :
    ∃ e' q, exec c s = .next (s.withPart q) ∧
      ((s.part.tookSupv m).inHand test).ScoredBy s.part.tbase.ms h e' none q ∧
      (s.part.topo.mode = .running → e' = some (e, g)) ∧
      (s.part.topo.mode ≠ .running → q = (s.part.tookSupv m).inHand test) := by
  by_cases run : s.part.topo.mode = .running
  · refine ⟨some (e, g), _, ?_, Part.scoredBy_scoreOn _ s.part.tbase.ms h none (some (e, g)), fun _ => rfl,
      fun no => absurd run no⟩
    rw [r s, s.takeSupv_of_running m h e g _ up fresh sent phase (s.part.running_iff.mpr run)]
    rfl
  · refine ⟨none, _, ?_, Part.scoredBy_self _ s.part.tbase.ms h none none rfl, fun k => absurd k run, fun _ => rfl⟩
    rw [r s, State.takeSupv, State.powered_up _ _ up, if_neg fresh, if_pos ⟨sent, phase⟩,
      if_neg (mt s.part.running_iff.mp run)]

end

/-- Settles O29. -/
theorem reportsChangeScore : Obligations.ReportsChangeScore := by
  intro h s c m e g test hc up
  have r := reports_of_mem hc
  refine ⟨fun stale => ?_, fun sent fresh phase => ?_, fun sent fresh phase => ?_⟩
  · rw [r s, s.takeSupv_of_stale m h e g _ up stale]
    cases test <;> rfl
  · rw [r s, State.takeSupv, State.powered_up _ _ up, if_neg fresh, if_neg fun k => k.2 phase]
  · obtain ⟨e', q, exec_, scored, running, still⟩ := r.taken up sent fresh phase
    obtain ⟨hdec, scnt, supv, slots, jrnl, topo, tbase, sent'⟩ := (s.part.tookSupv m).inHand_frame test
    have gen := (s.part.tookSupv m).inHand_gen test
    generalize (s.part.tookSupv m).inHand test = p at *
    replace supv : p.supv = s.part.supv := supv
    obtain ⟨gen', topo', tbase', -, active⟩ := scored.frame
    refine ⟨_, exec_, fun run => ?_, fun no => ?_, fun k ne => ?_, ?_, gen'.trans gen, fun out => ?_, fun same => ?_,
      fun counts differs alive => ?_, topo'.trans topo, tbase'.trans tbase, rfl, rfl⟩
    · rw [State.withPart_part, scored.supv, running run, supv]
    · rw [State.withPart_part, still no, supv]
    · rw [State.withPart_part, (scored.others k ne).1, supv]
    · by_cases f : p.supv[h].fails q.supv[h]
      · rw [if_pos (supv ▸ f), State.withPart_part, scored.sent f, sent']
        rfl
      · rw [if_neg (supv ▸ f), State.withPart_part, (scored.holds f).2.2.2, sent']
        rfl
    · have no : ¬ p.supv[h].fails q.supv[h] := fun f => out.elim (fun k => k f.1) fun k => f.2 (supv ▸ k)
      obtain ⟨hdec', scnt', slots', -⟩ := scored.holds no
      exact ⟨hdec'.trans hdec, scnt'.trans scnt, slots'.trans slots⟩
    · exact (scored.silent (supv.symm ▸ same)).trans jrnl
    · have k : p.Counts := counts.counts.congr topo (by rw [jrnl]; rfl)
      have journal := scored.jrnl k fun f => absurd f.1 alive
      rw [running counts.2.1] at journal
      refine journal.trans (((if_neg (supv.symm ▸ differs)).trans (if_neg alive)).trans ?_)
      rw [jrnl, topo, supv]
      rfl

/-- The reports that raise the score (R75). -/
theorem raises_of_mem {c : Instr} {m : ToSupv} {h : HeadId} {n : Nat} {g : Trigger}
    (hc : (c, m, n, g) ∈ [(.separationFaultReport h, .separationFault h, 32, .separation),
      (.glitchReport h, .glitch h, 8, .glitch), (.testFailedReport h, .testFailed h, 64, .testFail)]) :
    ∃ test, Reports c m h (.up n) g test := by
  simp only [List.mem_cons, Prod.mk.injEq, List.not_mem_nil, or_false] at hc
  obtain ⟨rfl, rfl, rfl, rfl⟩ | ⟨rfl, rfl, rfl, rfl⟩ | ⟨rfl, rfl, rfl, rfl⟩ := hc
  · exact ⟨false, fun _ => rfl⟩
  · exact ⟨false, fun _ => rfl⟩
  · exact ⟨true, fun _ => rfl⟩

theorem healthAfter_of_high {x : Health} (serv : x.inService = true) {n : Nat} (high : 224 ≤ n) :
    healthAfter x n = .failed := by
  obtain rfl | rfl | rfl := x.inService_iff.mp serv <;> exact if_pos high

/-- A score that rises to 224 or above fails a head in service (R76). -/
theorem HeadHealth.scored_up_failed {v : HeadHealth} {n : Nat} (g : Trigger) (serv : v.health.inService = true)
    (low : v.score ≤ 223) (high : 224 ≤ v.score + n) :
    v.scored (some (.up n, g)) = { v with score := min 255 (v.score + n), health := .failed } := by
  have new : (ScoreChange.up n).apply v.score = min 255 (v.score + n) := rfl
  rw [HeadHealth.scored_of_new g serv (by omega), HeadHealth.withScore, new, healthAfter_of_high serv (by omega)]

theorem Part.failureJournal_congr {p q : Part} (topo : q.topo = p.topo) (hdec : q.hdec = p.hdec) (scnt : q.scnt = p.scnt)
    (slots : q.slots = p.slots) : q.failureJournal = p.failureJournal := by
  funext now h j
  simp only [Part.failureJournal, Part.disturbJournal_congr topo scnt slots, hdec, topo]

/-- Settles O30. -/
theorem headFailureStopsHeadAndSections : Obligations.HeadFailureStopsHeadAndSections := by
  intro h s c m n g hc counts sent fresh phase serv low high two
  obtain ⟨test, r⟩ := raises_of_mem hc
  have serv := (Health.mem_inService _).mpr serv
  obtain ⟨e', q, exec_, scored, running, -⟩ := r.taken counts.1 sent fresh phase
  obtain ⟨hdec, scnt, supv, slots, jrnl, topo, -, sent'⟩ := (s.part.tookSupv m).inHand_frame test
  generalize (s.part.tookSupv m).inHand test = p at *
  replace supv : p.supv = s.part.supv := supv
  replace topo : p.topo = s.part.topo := topo
  replace jrnl : p.jrnl = s.part.jrnl := jrnl
  rw [running counts.2.1] at scored
  have new := scored.supv
  rw [supv, HeadHealth.scored_up_failed g serv low high] at new
  have fails : p.supv[h].fails q.supv[h] := by
    refine ⟨by rw [new], fun k => ?_⟩
    rw [supv] at k
    rw [k] at serv
    cases serv
  have k : p.Counts := counts.counts.congr topo (by rw [jrnl])
  have adjacent := Part.adjacent_congr h topo
  refine ⟨_, exec_, congrArg HeadHealth.health new, congrArg HeadHealth.score new, ?_, fun k ne => ⟨?_, ?_⟩,
    fun i hi => ?_, fun i hi => ?_, fun k => ?_, ?_, ?_, scored.frame.2.1.trans topo, rfl, rfl⟩
  · exact (scored.off fails).trans (by rw [hdec]; rfl)
  · exact (scored.others k ne).2.trans (by rw [hdec]; rfl)
  · exact (scored.others k ne).1.trans (by rw [supv])
  · exact (scored.beside fails ((Part.twoSections_congr h topo).mpr two) i (adjacent.symm ▸ hi)).trans (by rw [scnt]; rfl)
  · exact (scored.away i (adjacent.symm ▸ hi)).trans (by rw [scnt]; rfl)
  · exact (scored.slots fails k).trans (Part.slotDisturbed_congr h topo scnt slots k)
  · have journal := scored.jrnl k fun _ => (Part.twoSections_congr h topo).mpr two
    have differs : ¬ q.supv[h].health = p.supv[h].health := fun e => fails.2 (e.symm.trans fails.1)
    refine journal.trans (((if_neg differs).trans (if_pos fails.1)).trans ?_)
    rw [Part.failureJournal_congr (p := s.part) topo hdec scnt slots, new, topo, jrnl, supv]
    rfl
  · rw [State.withPart_part, scored.sent fails, sent']
    rfl

end Sys2Proof.Machine

/-! SUPPORT. The two score events of one head's scan, one after the other (R70, R71, R74, R76). -/

namespace Sys2Proof.Machine

open Sys2Proof

/-- Two changes of a head's record in a row do what one does: at most one of them fails the head (R80). -/
theorem Part.HealthMoved.trans {p q r : Part} {h : HeadId} (a : p.HealthMoved h q) (b : q.HealthMoved h r) :
    p.HealthMoved h r := by
  obtain ⟨gen, topo, tbase, ticks, active⟩ := a.frame
  obtain ⟨gen', topo', tbase', ticks', active'⟩ := b.frame
  have adjacent := Part.adjacent_congr h topo
  have others (g : HeadId) (ne : g ≠ h) : r.supv[g] = p.supv[g] ∧ r.hdec[g] = p.hdec[g] :=
    ⟨(b.others g ne).1.trans (a.others g ne).1, (b.others g ne).2.trans (a.others g ne).2⟩
  have away (i : SectionId) (hi : i ∉ p.adjacent h) : r.scnt[i] = p.scnt[i] :=
    (b.away i (adjacent.symm ▸ hi)).trans (a.away i hi)
  have frame : r.gen = p.gen ∧ r.topo = p.topo ∧ r.tbase = p.tbase ∧ r.ticks = p.ticks ∧ r.jrnl.active = p.jrnl.active :=
    ⟨gen'.trans gen, topo'.trans topo, tbase'.trans tbase, ticks'.trans ticks, active'.trans active⟩
  by_cases f : p.supv[h].fails q.supv[h]
  · obtain ⟨hdec, scnt, slots, sent⟩ := b.holds fun k => k.2 f.1
    have fails : p.supv[h].fails r.supv[h] := ⟨b.stays f.1, f.2⟩
    refine ⟨others, b.stays ∘ a.stays, fun no => absurd fails no, fun _ => ?_, fun _ two i hi => ?_, away, fun _ n => ?_,
      fun _ => sent.trans (a.sent f), frame⟩
    · rw [hdec, a.off f]
    · rw [scnt, a.beside f two i hi]
    · rw [slots, a.slots f n]
  · obtain ⟨hdec, scnt, slots, sent⟩ := a.holds f
    have fails : p.supv[h].fails r.supv[h] ↔ q.supv[h].fails r.supv[h] :=
      ⟨fun k => ⟨k.1, fun l => f ⟨l, k.2⟩⟩, fun k => ⟨k.1, fun l => k.2 (a.stays l)⟩⟩
    refine ⟨others, b.stays ∘ a.stays, fun no => ?_, fun k => ?_, fun k two i hi => ?_, away, fun k n => ?_, fun k => ?_,
      frame⟩
    · obtain ⟨hdec', scnt', slots', sent'⟩ := b.holds (mt fails.mpr no)
      exact ⟨hdec'.trans hdec, scnt'.trans scnt, slots'.trans slots, sent'.trans sent⟩
    · rw [b.off (fails.mp k), hdec]
    · rw [b.beside (fails.mp k) ((Part.twoSections_congr h topo).mpr two) i (adjacent.symm ▸ hi), scnt]
    · rw [b.slots (fails.mp k), Part.slotDisturbed_congr h topo scnt slots]
    · rw [b.sent (fails.mp k), sent]

/-! ### A score that only rises -/

/-- The states in service in the order of the score, FAILED above them. -/
def Health.rank : Health → Nat
  | .unused => 0
  | .healthy => 1
  | .marginal => 2
  | .degraded => 3
  | .failed => 4
  | .recovering => 5

theorem Health.rank_injective : Function.Injective Health.rank := by
  intro x y
  cases x <;> cases y <;> simp [Health.rank]

/-- The event, if any, raises the score. -/
def Raises (e : Option (ScoreChange × Trigger)) : Prop := ∀ c t, e = some (c, t) → ∃ n, c = .up n

/-- Every scan event raises the score (R71). -/
theorem raises_scanEvent (c : AmpClass) (x : Sensor) (us : Word) : Raises (scanEvent c x us) := by
  intro d t e
  cases c <;> simp only [scanEvent] at e <;> grind

theorem HeadHealth.agrees.scored {v : HeadHealth} (hv : v.agrees) (e : Option (ScoreChange × Trigger)) :
    (v.scored e).agrees := by
  cases e with
  | none => exact hv
  | some e =>
    by_cases k : v.health.inService = true ∧ e.1.apply v.score ≠ v.score
    · rw [HeadHealth.scored_of_new e.2 k.1 k.2]
      exact hv.withScore k.1 e.1
    · rw [show v.scored (some e) = v from if_neg k]
      exact hv

/-- A score that lies no lower than the old one, which goes with the old state, leads to no lower state: the thresholds
back down lie below those up (R76). -/
theorem rank_le_healthAfter {v : HeadHealth} (fits : v.agrees) (serv : v.health.inService = true) {n : Nat}
    (high : v.score ≤ 223 → v.score ≤ n) : v.health.rank ≤ (healthAfter v.health n).rank := by
  obtain ⟨score, -, -⟩ := fits
  obtain st | st | st := v.health.inService_iff.mp serv <;> rw [st] at score ⊢ <;> simp only [] at score <;>
    simp only [healthAfter]
  · exact Nat.succ_le_of_lt (by split_ifs <;> decide)
  · have low : 32 ≤ n := by omega
    rw [if_pos low]
    split_ifs <;> decide
  · have low : 96 ≤ n := by omega
    rw [if_pos low]
    split_ifs <;> decide

/-- A rising score moves the health up or leaves it. -/
theorem HeadHealth.agrees.rank_le_scored {v : HeadHealth} (hv : v.agrees) {e : Option (ScoreChange × Trigger)}
    (up : Raises e) : v.health.rank ≤ (v.scored e).health.rank := by
  cases e with
  | none => exact le_rfl
  | some e =>
    obtain ⟨n, rise⟩ := up e.1 e.2 rfl
    by_cases k : v.health.inService = true ∧ e.1.apply v.score ≠ v.score
    · rw [HeadHealth.scored_of_new e.2 k.1 k.2, HeadHealth.withScore, rise]
      exact rank_le_healthAfter hv k.1 fun low => le_min (by omega) (by omega)
    · rw [show v.scored (some e) = v from if_neg k]

/-- Two rising events that leave the health in the end leave it in between. -/
theorem HeadHealth.agrees.scored_health_eq {v : HeadHealth} (hv : v.agrees) {a b : Option (ScoreChange × Trigger)}
    (ua : Raises a) (ub : Raises b) (same : ((v.scored a).scored b).health = v.health) :
    (v.scored a).health = v.health := by
  have low := hv.rank_le_scored ua
  have high := (hv.scored a).rank_le_scored ub
  rw [same] at high
  exact Health.rank_injective (le_antisymm high low)

/-! ### The scan -/

theorem Part.scoreJournal_congr {p q : Part} (topo : q.topo = p.topo) (hdec : q.hdec = p.hdec) (scnt : q.scnt = p.scnt)
    (slots : q.slots = p.slots) : q.scoreJournal = p.scoreJournal := by
  funext now h e y v w j
  simp only [Part.scoreJournal, Part.failureJournal_congr topo hdec scnt slots, topo]

/-- Where the health stays a score event takes no record (R77). -/
theorem Part.scoreJournal_of_same (p : Part) (now : Word) (h : HeadId) (e : Option (ScoreChange × Trigger))
    (y : Option System) {v w : HeadHealth} (j : Journal) (same : w.health = v.health) :
    p.scoreJournal now h e y v w j = j := by
  cases e with
  | none => rfl
  | some e => exact if_pos same

/-- The blocks `q` after the score events `a` of system A and `b` of system B at head `h` of the blocks `p` (R70). -/
structure Part.ScannedBy (p : Part) (now : Word) (h : HeadId) (a b : Option (ScoreChange × Trigger)) (q : Part) : Prop
    extends p.HealthMoved h q where
  supv : q.supv[h] = (p.supv[h].scored a).scored b
  silent : p.supv[h].agrees → q.supv[h].health = p.supv[h].health → q.jrnl = p.jrnl
  jrnl : p.Counts → p.twoSections h →
    q.jrnl = p.scoreJournal now h b (some .sysB) (p.supv[h].scored a) q.supv[h]
      (p.scoreJournal now h a (some .sysA) p.supv[h] (p.supv[h].scored a) p.jrnl)

/-- The events of the two systems, one after the other. -/
theorem Part.ScoredBy.then {p q r : Part} {now : Word} {h : HeadId} {a b : Option (ScoreChange × Trigger)}
    (ka : p.ScoredBy now h a (some .sysA) q) (kb : q.ScoredBy now h b (some .sysB) r) (ua : Raises a) (ub : Raises b) :
    p.ScannedBy now h a b r := by
  obtain ⟨-, topo, -, -, active⟩ := ka.frame
  have supv : r.supv[h] = (p.supv[h].scored a).scored b := by rw [kb.supv, ka.supv]
  refine ⟨ka.toHealthMoved.trans kb.toHealthMoved, supv, fun fits same => ?_, fun counts two => ?_⟩
  · rw [supv] at same
    have mid := fits.scored_health_eq ua ub same
    refine (kb.silent ?_).trans (ka.silent ?_)
    · rw [supv, ka.supv, mid, same]
    · rw [ka.supv, mid]
  · have two' : q.twoSections h := (Part.twoSections_congr h topo).mpr two
    rw [kb.jrnl (counts.congr topo active) fun _ => two', ka.jrnl counts fun _ => two, ← ka.supv]
    by_cases f : p.supv[h].fails q.supv[h]
    · have same : r.supv[h].health = q.supv[h].health := (kb.stays f.1).trans f.1.symm
      rw [Part.scoreJournal_of_same _ _ _ _ _ _ same, Part.scoreJournal_of_same _ _ _ _ _ _ same]
    · obtain ⟨hdec, scnt, slots, -⟩ := ka.holds f
      rw [Part.scoreJournal_congr topo hdec scnt slots]

/-- A failed head's system keeps its sensors (R17). -/
theorem HeadDecoder.off_sensor (x : HeadDecoder) (y : System) : x.off.sensor y = x.sensor y := by cases y <;> rfl

section
variable (p : Part) (now : Word) (h : HeadId) (a b : Amp)

theorem Part.HealthMoved.sensor {p q : Part} {h : HeadId} (k : p.HealthMoved h q) (y : System) :
    q.hdec[h].sensor y = p.hdec[h].sensor y := by
  by_cases f : p.supv[h].fails q.supv[h]
  · rw [k.off f, HeadDecoder.off_sensor]
  · rw [(k.holds f).1]

theorem Part.scannedBy_scanned :
    (p.classed h a b).ScannedBy now h
      (scanEvent (p.topo.params.ampClass a) p.hdec[h].sensorA p.tbase.us)
      (scanEvent (p.topo.params.ampClass b) p.hdec[h].sensorB p.tbase.us) (p.scanned now h a b) := by
  rw [Part.scanned, Part.scanSystem_eq, Part.scanSystem_eq]
  have ka := (p.classed h a b).scoredBy_scoreOn now h (some .sysA)
    (scanEvent (p.topo.params.ampClass a) ((p.classed h a b).hdec[h].sensor .sysA) (p.classed h a b).tbase.us)
  generalize (p.classed h a b).scoreOn now h _ (some .sysA) = q at ka ⊢
  have kb := q.scoredBy_scoreOn now h (some .sysB)
    (scanEvent (p.topo.params.ampClass b) (q.hdec[h].sensor .sysB) q.tbase.us)
  have eb : scanEvent (p.topo.params.ampClass b) (q.hdec[h].sensor .sysB) q.tbase.us =
      scanEvent (p.topo.params.ampClass b) p.hdec[h].sensorB p.tbase.us := by
    rw [ka.toHealthMoved.sensor, ka.frame.2.2.1]
    rfl
  rw [eb] at kb ⊢
  exact ka.then kb (raises_scanEvent _ _ _) (raises_scanEvent _ _ _)

end

end Sys2Proof.Machine

/-! SUPPORT. One head's update of a supervision tick, and the pass over the heads (R70, R83, R84, R166). -/

namespace Sys2Proof.Machine

open Sys2Proof

section
variable (p : Part) (now : Word) (h : HeadId) (a b : Amp)

/-! ### The update of one head -/

theorem Part.classed_supv_get :
    (p.classed h a b).supv[h] =
      { p.supv[h] with classA := some (p.topo.params.ampClass a), classB := some (p.topo.params.ampClass b) } := by
  rw [Part.classed, Part.setSupv_get, if_pos rfl]

theorem Part.classed_supv_get_other (g : HeadId) (ne : g ≠ h) : (p.classed h a b).supv[g] = p.supv[g] := by
  rw [Part.classed, Part.setSupv_get, if_neg ne.symm]

theorem Part.scoreOn_of_out (e : Option (ScoreChange × Trigger)) (y : Option System)
    (out : p.supv[h].health.inService = false) : p.scoreOn now h e y = p := by
  cases e with
  | none => rfl
  | some e => exact if_pos (by rw [out]; rfl)

/-- The scan of a head out of service stores its classes alone (R70, R74). -/
theorem Part.scanned_of_out (out : p.supv[h].health.inService = false) : p.scanned now h a b = p.classed h a b := by
  have out' : (p.classed h a b).supv[h].health.inService = false := by rw [Part.classed_supv_get]; exact out
  have system (y : System) (c : AmpClass) : (p.classed h a b).scanSystem now h y c = p.classed h a b :=
    Part.scoreOn_of_out _ _ _ _ _ out'
  rw [Part.scanned, system, system]

/-- The head is quiet at a tick with these samples (R83). -/
def Part.quietAt (p : Part) (h : HeadId) (a b : Amp) : Bool := quietNow p.hdec[h] (p.classed h a b).supv[h]

theorem Part.quietAt_eq :
    p.quietAt h a b =
      decide (p.topo.params.ampClass a = .normal ∧ p.topo.params.ampClass b = .normal ∧
        p.hdec[h].sensorA.damped = false ∧ p.hdec[h].sensorB.damped = false ∧
        p.supv[h].refTimes = some (p.hdec[h].sensorA.edgeTime, p.hdec[h].sensorB.edgeTime)) := by
  rw [Part.quietAt, Part.classed_supv_get]
  simp [quietNow, HeadDecoder.free, HeadDecoder.edgeTimes, Bool.and_assoc, Bool.decide_and]
  rfl

/-- A recovering head with its quiet count brought on (R83). -/
def Part.quietCounted (p : Part) (h : HeadId) (a b : Amp) : Part :=
  (p.classed h a b).setSupv h
    { (p.classed h a b).supv[h] with
      quiet := if p.quietAt h a b = true then p.supv[h].quiet + 1 else 0
      refTimes := some p.hdec[h].edgeTimes }

/-- A head's update is its scan, or the count of a recovery's quiet ticks, or the end of the recovery (R70, R83, R84). -/
inductive Part.Supervised (p : Part) (now : Word) (h : HeadId) (a b : Amp) : Part → Prop
  | scanned {q : Part} (st : p.supv[h].health ≠ .recovering)
      (k : (p.classed h a b).ScannedBy now h
        (scanEvent (p.topo.params.ampClass a) p.hdec[h].sensorA p.tbase.us)
        (scanEvent (p.topo.params.ampClass b) p.hdec[h].sensorB p.tbase.us) q) : Supervised p now h a b q
  | counted (st : p.supv[h].health = .recovering) (low : p.supv[h].quiet < 249 ∨ p.quietAt h a b = false) :
      Supervised p now h a b (p.quietCounted h a b)
  | recovered (st : p.supv[h].health = .recovering) (goal : 249 ≤ p.supv[h].quiet) (quiet : p.quietAt h a b = true) :
      Supervised p now h a b ((p.quietCounted h a b).recoveryDone now h)

theorem Part.quietCheck_classed :
    (p.classed h a b).quietCheck now h =
      if 250 ≤ (if p.quietAt h a b = true then p.supv[h].quiet + 1 else 0) then
        (p.quietCounted h a b).recoveryDone now h
      else p.quietCounted h a b := by
  have same : (p.classed h a b).supv[h].quiet = p.supv[h].quiet := by rw [Part.classed_supv_get]
  rw [Part.quietCounted, ← same]
  rfl

theorem Part.supervised_superviseHead : p.Supervised now h a b (p.superviseHead now h a b) := by
  rw [Part.superviseHead_eq]
  by_cases st : p.supv[h].health = .recovering
  · rw [if_pos st, p.scanned_of_out now h a b (by rw [st]; rfl), Part.quietCheck_classed]
    by_cases goal : 249 ≤ p.supv[h].quiet ∧ p.quietAt h a b = true
    · rw [if_pos goal.2, if_pos (Nat.succ_le_succ goal.1)]
      exact .recovered st goal.1 goal.2
    · have low : p.supv[h].quiet < 249 ∨ p.quietAt h a b = false := by
        rw [Decidable.not_and_iff_or_not] at goal
        exact goal.imp Nat.lt_of_not_le Bool.eq_false_of_not_eq_true
      rw [if_neg (by split_ifs <;> grind)]
      exact .counted st low
  · rw [if_neg st]
    exact .scanned st (p.scannedBy_scanned now h a b)

theorem Part.quietCounted_supv_get (g : HeadId) :
    (p.quietCounted h a b).supv[g] =
      if h = g then
        { (p.classed h a b).supv[h] with
          quiet := if p.quietAt h a b = true then p.supv[h].quiet + 1 else 0
          refTimes := some p.hdec[h].edgeTimes }
      else p.supv[g] := by
  rw [Part.quietCounted, Part.setSupv_get]
  refine if_ctx_congr Iff.rfl (fun _ => rfl) fun ne => ?_
  exact p.classed_supv_get_other h a b g (Ne.symm ne)

end

section
variable {p q : Part} {now : Word} {h : HeadId} {a b : Amp}

/-- The update is that of one head, within its record, its decoder and the sections beside it. -/
theorem Part.Supervised.frame (k : p.Supervised now h a b q) :
    q.gen = p.gen ∧ q.topo = p.topo ∧ q.tbase = p.tbase ∧ q.ticks = p.ticks ∧
      (∀ g : HeadId, g ≠ h → q.supv[g] = p.supv[g] ∧ q.hdec[g] = p.hdec[g]) := by
  cases k with
  | scanned st k =>
    obtain ⟨gen, topo, tbase, ticks, -⟩ := k.frame
    refine ⟨gen, topo, tbase, ticks, fun g ne => ⟨(k.others g ne).1.trans ?_, (k.others g ne).2⟩⟩
    exact p.classed_supv_get_other h a b g ne
  | counted st low =>
    refine ⟨rfl, rfl, rfl, rfl, fun g ne => ⟨?_, rfl⟩⟩
    rw [Part.quietCounted_supv_get, if_neg ne.symm]
  | recovered st goal quiet =>
    obtain ⟨hdec, -, gen, topo, tbase, ticks⟩ := (p.quietCounted h a b).recoveryDone_frame now h
    refine ⟨gen, topo, tbase, ticks, fun g ne => ⟨?_, by rw [hdec]; rfl⟩⟩
    rw [Part.recoveryDone_supv_get, if_neg ne.symm, Part.quietCounted_supv_get, if_neg ne.symm]

/-- In a recovery no update fails the head. -/
theorem Part.Supervised.alive (k : p.Supervised now h a b q) (st : p.supv[h].health = .recovering) :
    q.supv[h].health ≠ .failed ∧ q.hdec = p.hdec ∧ q.scnt = p.scnt := by
  cases k with
  | scanned st' _ => exact absurd st st'
  | counted _ low =>
    refine ⟨?_, rfl, rfl⟩
    rw [Part.quietCounted_supv_get, if_pos rfl, Part.classed_supv_get]
    exact fun f => nomatch st.symm.trans f
  | recovered _ goal quiet =>
    obtain ⟨hdec, scnt, -⟩ := (p.quietCounted h a b).recoveryDone_frame now h
    refine ⟨?_, hdec, scnt⟩
    rw [Part.recoveryDone_supv_get, if_pos rfl]
    exact nofun

end

/-! ### The pass -/

section
variable (p : Part) (h : HeadId)

theorem Part.scannable_iff : p.scannable h = true ↔ p.used h = true ∧ p.hdec[h].phase ≠ .test := by
  simp [Part.scannable]

theorem Part.scannable_eq_false_iff : p.scannable h = false ↔ p.used h = false ∨ p.hdec[h].phase = .test := by
  simp [Part.scannable, ← Bool.not_eq_true, imp_iff_not_or]

theorem Part.nextScan_eq_some (n : Nat) (le : n ≤ h.val) (here : p.scannable h = true)
    (first : ∀ g : HeadId, n ≤ g.val → g.val < h.val → p.scannable g = false) : p.nextScan n = some h :=
  find?_finRange_eq_some _ h (by simp [le, here]) fun g lt => by
    by_cases low : n ≤ g.val <;> simp [low]
    exact first g low lt

/-- Behind the last head the pass ends (R70). -/
theorem Part.passOn_ticks_of_last (last : ∀ g : HeadId, h.val < g.val → p.scannable g = false) :
    (p.passOn h).ticks = { p.ticks with supv := p.ticks.supv.tail, scanNext := 0 } := by
  have none : p.nextScan (h.val + 1) = none := find?_finRange_eq_none _ fun g => by
    by_cases low : h.val + 1 ≤ g.val <;> simp [low]
    exact last g low
  rw [Part.passOn, none]
  rfl

/-- Before another head the pass goes on (R70). -/
theorem Part.passOn_ticks_of_more (g : HeadId) (lt : h.val < g.val) (more : p.scannable g = true) :
    (p.passOn h).ticks = { p.ticks with scanNext := h.val + 1 } := by
  have some : (p.nextScan (h.val + 1)).isSome = true := by
    rw [Part.nextScan, List.find?_isSome]
    exact ⟨g, List.mem_finRange g, by simp [more, Nat.succ_le_of_lt lt]⟩
  obtain ⟨k, hk⟩ := Option.isSome_iff_exists.mp some
  rw [Part.passOn, hk]
  rfl

end

end Sys2Proof.Machine

/-! SUPPORT. The tick of supervision that SUPV takes (R70, R91, R166). -/

namespace Sys2Proof.Machine

open Sys2Proof

section
variable {p : Part} {v : Word} {rest : List Word} (h : HeadId) (a b : Amp)

theorem Part.supervisionTick_of_not_inTurn (e : p.ticks.supv = v :: rest) (no : ¬ p.inTurn v p.ticks.slowSupv) :
    p.supervisionTick h a b = p := by
  rw [Part.supervisionTick, p.nextSupvTick_of_not_inTurn v rest e no]

/-- Outside RUNNING the tick is gone without effect (R91). -/
theorem Part.supervisionTick_of_not_running (e : p.ticks.supv = v :: rest) (turn : p.inTurn v p.ticks.slowSupv)
    (off : p.running = false) :
    p.supervisionTick h a b = { p with ticks := { p.ticks with supv := rest, scanNext := 0 } } := by
  have done : p.supvTickDone = { p with ticks := { p.ticks with supv := rest, scanNext := 0 } } := by
    rw [Part.supvTickDone, e]
    rfl
  rw [Part.supervisionTick, p.nextSupvTick_of_inTurn v rest e turn, ← done]
  simp only [off, Bool.not_false, if_true]

/-- In RUNNING the next head of the pass is updated. -/
theorem Part.supervisionTick_of_next (e : p.ticks.supv = v :: rest) (turn : p.inTurn v p.ticks.slowSupv)
    (run : p.running = true) (next : p.nextScan p.ticks.scanNext = some h) :
    p.supervisionTick h a b = (p.superviseHead v h a b).passOn h := by
  rw [Part.supervisionTick, p.nextSupvTick_of_inTurn v rest e turn]
  simp only [run, next, Bool.not_true, Bool.false_eq_true, if_false, if_true]

end

section
variable {p q : Part} {now : Word} {h : HeadId} {a b : Amp}

/-- Behind the head the pass finds the heads that it would have found before the update. -/
theorem Part.Supervised.scannable (k : p.Supervised now h a b q) (g : HeadId) (lt : h.val < g.val) :
    q.scannable g = p.scannable g := by
  obtain ⟨-, topo, -, -, others⟩ := k.frame
  have ne : g ≠ h := fun e => absurd (congrArg Fin.val e) (Nat.ne_of_gt lt)
  simp only [Part.scannable, Part.used, Part.headEntry, topo, (others g ne).2]

/-- Unless it fails the head, the update leaves the decoders and the sections. -/
theorem Part.Supervised.holds (k : p.Supervised now h a b q)
    (nf : q.supv[h].health ≠ .failed ∨ p.supv[h].health = .failed) :
    q.hdec = p.hdec ∧ q.scnt = p.scnt ∧ (p.supv[h].health ≠ .recovering → q.slots = p.slots) := by
  by_cases st : p.supv[h].health = .recovering
  · obtain ⟨-, hdec, scnt⟩ := k.alive st
    exact ⟨hdec, scnt, fun k => absurd st k⟩
  · cases k with
    | scanned _ k =>
      have same : (p.classed h a b).supv[h].health = p.supv[h].health := by rw [Part.classed_supv_get]
      obtain ⟨hdec, scnt, slots, -⟩ := k.holds fun f => nf.elim (fun n => n f.1) fun old => f.2 (same.trans old)
      exact ⟨hdec, scnt, fun _ => slots⟩
    | counted st' _ => exact absurd st' st
    | recovered st' _ _ => exact absurd st' st

theorem Part.Supervised.scannedBy (k : p.Supervised now h a b q) (st : p.supv[h].health ≠ .recovering) :
    (p.classed h a b).ScannedBy now h
      (scanEvent (p.topo.params.ampClass a) p.hdec[h].sensorA p.tbase.us)
      (scanEvent (p.topo.params.ampClass b) p.hdec[h].sensorB p.tbase.us) q := by
  cases k with
  | scanned _ k => exact k
  | counted st' _ => exact absurd st' st
  | recovered st' _ _ => exact absurd st' st

theorem Part.Supervised.eq_quietCounted (k : p.Supervised now h a b q) (st : p.supv[h].health = .recovering)
    (low : p.supv[h].quiet < 249 ∨ p.quietAt h a b = false) : q = p.quietCounted h a b := by
  cases k with
  | scanned st' _ => exact absurd st st'
  | counted _ _ => rfl
  | recovered _ goal quiet => exact low.elim (fun k => absurd goal (Nat.not_le_of_lt k)) fun k => nomatch quiet.symm.trans k

/-- The reports in flight are stale after a failure alone; the end of a recovery sends one of its own. -/
theorem Part.Supervised.sent (k : p.Supervised now h a b q)
    (low : p.supv[h].health ≠ .recovering ∨ p.supv[h].quiet < 249 ∨ p.quietAt h a b = false) :
    q.sent =
      if q.supv[h].health = .failed ∧ p.supv[h].health ≠ .failed then
        { p.sent with
          supv := p.sent.supv.filter fun x => decide (x.head ≠ h)
          stale := p.sent.stale ++ p.sent.supv.filter fun x => decide (x.head = h) }
      else p.sent := by
  by_cases st : p.supv[h].health = .recovering
  · rw [if_neg fun f => (k.alive st).1 f.1, k.eq_quietCounted st (low.resolve_left fun n => n st)]
    rfl
  · have same : (p.classed h a b).supv[h].health = p.supv[h].health := by rw [Part.classed_supv_get]
    have k := k.scannedBy st
    by_cases f : q.supv[h].health = .failed ∧ p.supv[h].health ≠ .failed
    · rw [if_pos f]
      exact k.sent ⟨f.1, same ▸ f.2⟩
    · rw [if_neg f]
      exact (k.holds fun g => f ⟨g.1, same ▸ g.2⟩).2.2.2

/-- What a failure does, in terms of the blocks before the tick (R80). -/
theorem Part.Supervised.fails (k : p.Supervised now h a b q) (new : q.supv[h].health = .failed)
    (old : p.supv[h].health ≠ .failed) :
    q.hdec[h] = p.hdec[h].off ∧
      (p.twoSections h → (∀ i ∈ p.adjacent h, q.scnt[i] = p.scnt[i].disturbed .headFailed) ∧
        ∀ n : SlotId, q.slots[n] = p.slotDisturbed h n) ∧
      ∀ i : SectionId, i ∉ p.adjacent h → q.scnt[i] = p.scnt[i] := by
  have st : p.supv[h].health ≠ .recovering := fun st => (k.alive st).1 new
  have same : (p.classed h a b).supv[h].health = p.supv[h].health := by rw [Part.classed_supv_get]
  have k := k.scannedBy st
  have f : (p.classed h a b).supv[h].fails q.supv[h] := ⟨new, same ▸ old⟩
  exact ⟨k.off f, fun two => ⟨k.beside f two, k.slots f⟩, k.away⟩

/-- Where score and health go together, an unchanged health leaves the slots and the journal. -/
theorem Part.Supervised.silent (k : p.Supervised now h a b q) (fits : p.supv[h].agrees)
    (same : q.supv[h].health = p.supv[h].health) : q.slots = p.slots ∧ q.jrnl = p.jrnl := by
  cases k with
  | scanned st k =>
    have old : (p.classed h a b).supv[h].health = p.supv[h].health := by rw [Part.classed_supv_get]
    have fits' : (p.classed h a b).supv[h].agrees := by
      rw [Part.classed_supv_get]
      exact fits.congr rfl rfl rfl rfl rfl rfl
    have same' : q.supv[h].health = (p.classed h a b).supv[h].health := same.trans old.symm
    exact ⟨(k.holds fun f => f.2 (same'.symm.trans f.1)).2.2.1, k.silent fits' same'⟩
  | counted _ _ => exact ⟨rfl, rfl⟩
  | recovered st _ _ =>
    rw [Part.recoveryDone_supv_get, if_pos rfl, st] at same
    cases same

end

/-- Settles O26. -/
theorem supervisionTickScansOneHead : Obligations.SupervisionTickScansOneHead := by
  intro h a b v rest s up e
  have run_eq : exec (.supervisionTick h a b) s = .next (s.withPart (s.part.supervisionTick h a b)) :=
    State.powered_up _ _ up
  refine ⟨fun no => ?_, fun turn off => ?_, ?_⟩
  · rw [run_eq, Part.supervisionTick_of_not_inTurn h a b e no]
    rfl
  · rw [run_eq, Part.supervisionTick_of_not_running h a b e turn
      (Bool.eq_false_of_not_eq_true (mt s.part.running_iff.mp off))]
  · intro ca cb ea eb v0 v1 v2 quiet turn run used phase le first hca hcb hea heb hv0 hv1 hv2 hquiet
    have next : s.part.nextScan s.part.ticks.scanNext = some h :=
      s.part.nextScan_eq_some h _ le ((s.part.scannable_iff h).mpr ⟨used, phase⟩) fun g lo lt =>
        (s.part.scannable_eq_false_iff g).mpr (first g lo lt)
    rw [run_eq, Part.supervisionTick_of_next h a b e turn (s.part.running_iff.mpr run) next]
    have k := s.part.supervised_superviseHead v h a b
    generalize s.part.superviseHead v h a b = q at k ⊢
    obtain ⟨gen, topo, tbase, ticks, others⟩ := k.frame
    obtain ⟨hdec', scnt', supv', gen', slots', jrnl', topo', tbase', sent'⟩ := q.passOn_frame h
    have quiet_eq : quiet = s.part.quietAt h a b := by rw [hquiet, hca, hcb, Part.quietAt_eq]
    have old : v0 = (s.part.classed h a b).supv[h] := by rw [hv0, hca, hcb, Part.classed_supv_get]
    subst hca hcb hea heb hv1 hv2 quiet_eq
    refine ⟨_, rfl, fun st => ?_, fun st low => ?_, fun nf => ?_, fun new old => ?_, fun low => ?_, fun fits same => ?_,
      fun last => ?_, fun ⟨g, lt, more⟩ => ?_, fun g ne => ?_, ?_, ?_, ?_, rfl, rfl⟩ <;>
      simp only [State.withPart_part, hdec', scnt', supv', slots', jrnl', sent'] at *
    · have k := k.scannedBy st
      refine ⟨k.supv.trans (by rw [old]), fun active two => ?_⟩
      rw [k.jrnl ⟨run, active⟩ two, k.supv, old]
      rfl
    · obtain rfl := k.eq_quietCounted st low
      refine ⟨?_, rfl, rfl⟩
      rw [Part.quietCounted_supv_get, if_pos rfl, old]
      rfl
    · exact k.holds nf
    · exact k.fails new old
    · exact k.sent low
    · exact k.silent fits same
    · rw [q.passOn_ticks_of_last h fun g lt => ?_, ticks, e]
      · rfl
      · rw [k.scannable g lt, Part.scannable_eq_false_iff]
        exact last g lt
    · rw [q.passOn_ticks_of_more h g lt ?_, ticks]
      rw [k.scannable g lt, Part.scannable_iff]
      exact more
    · exact others g ne
    · exact gen'.trans gen
    · exact topo'.trans topo
    · exact tbase'.trans tbase

end Sys2Proof.Machine

/-! SUPPORT. The ends of a restart, complete or timed out, and HDEC's taking of the recovery report (R84, R85). -/

namespace Sys2Proof.Machine

open Sys2Proof

/-- A restart ends: the head's new record, the HEAD record, and the report to the slot that the head carried (R84,
R85). -/
def Part.endRestart (p : Part) (now : Word) (h : HeadId) (new : Health) (score : Nat) (t : Trigger) (st : SlotState)
    (r : Result) : Part :=
  ((p.setSupv h (p.supv[h].endRecovery new score)).record now (.head h .recovering new score t none)).reportSlot now
    p.supv[h].restartSlot 3#8 h.val st r

theorem Part.recoveryDone_eq (p : Part) (now : Word) (h : HeadId) :
    p.recoveryDone now h = (p.endRestart now h .healthy 0 .recovered .done .ok).sendRecovered h := rfl

theorem Part.restartTimesOut_eq (p : Part) (now : Word) (h : HeadId) :
    p.restartTimesOut now h = p.endRestart now h .failed p.supv[h].score .restartTimeout .failed .timeout := rfl

section
variable (p : Part) (now : Word) (h : HeadId) (new : Health) (score : Nat) (t : Trigger) (st : SlotState) (r : Result)

@[simp] theorem Part.endRestart_frame :
    (p.endRestart now h new score t st r).hdec = p.hdec ∧ (p.endRestart now h new score t st r).scnt = p.scnt ∧
      (p.endRestart now h new score t st r).gen = p.gen ∧ (p.endRestart now h new score t st r).topo = p.topo ∧
      (p.endRestart now h new score t st r).tbase = p.tbase ∧ (p.endRestart now h new score t st r).ticks = p.ticks ∧
      (p.endRestart now h new score t st r).sent = p.sent := by
  simp [Part.endRestart]

theorem Part.endRestart_supv_get (g : HeadId) :
    (p.endRestart now h new score t st r).supv[g] = if h = g then p.supv[h].endRecovery new score else p.supv[g] := by
  simp [Part.endRestart, Vector.getElem_set, Fin.ext_iff]

theorem Part.endRestart_slots_get (n : SlotId) :
    (p.endRestart now h new score t st r).slots[n] =
      if p.supv[h].restartSlot = some n ∧ p.slots[n].serves 3#8 h.val then
        { p.slots[n] with state := st, result := some r }
      else p.slots[n] := by
  rw [Part.endRestart, Part.reportSlot_slots_get, Part.record_slots]
  rfl

@[simp] theorem Part.endRestart_active : (p.endRestart now h new score t st r).jrnl.active = p.jrnl.active := by
  simp [Part.endRestart]

theorem Part.Counts.endRestart_jrnl {p : Part} (c : p.Counts) :
    (p.endRestart now h new score t st r).jrnl =
      p.reportJournal now p.supv[h].restartSlot 3#8 h.val r
        (p.journalAfter now (.head h .recovering new score t none)) := by
  have c' : (p.setSupv h (p.supv[h].endRecovery new score)).Counts := c.congr rfl rfl
  rw [Part.endRestart, (c'.record now _).reportSlot_jrnl, c'.record_jrnl]
  refine Part.reportJournal_congr _ now _ 3#8 h.val r _ _ (by simp) fun n _ => ?_
  rw [Part.record_slots]
  exact ⟨Iff.rfl, fun _ => ⟨rfl, rfl⟩⟩

theorem Part.recoveryDone_slots_get (n : SlotId) :
    (p.recoveryDone now h).slots[n] =
      if p.supv[h].restartSlot = some n ∧ p.slots[n].serves 3#8 h.val then
        { p.slots[n] with state := .done, result := some .ok }
      else p.slots[n] := by
  rw [Part.recoveryDone_eq, Part.sendRecovered_slots, Part.endRestart_slots_get]

theorem Part.recoveryDone_sent :
    (p.recoveryDone now h).sent = { p.sent with recovered := p.sent.recovered ++ [h] } := by
  simp [Part.recoveryDone_eq]

theorem Part.Counts.recoveryDone_jrnl {p : Part} (c : p.Counts) :
    (p.recoveryDone now h).jrnl =
      p.reportJournal now p.supv[h].restartSlot 3#8 h.val .ok
        (p.journalAfter now (.head h .recovering .healthy 0 .recovered none)) := by
  rw [Part.recoveryDone_eq, Part.sendRecovered_jrnl, c.endRestart_jrnl]

end

/-! ### RECOVERY_COMPLETE -/

section
variable {p : Part} {now : Word} {h : HeadId} {a b : Amp}

theorem Part.Supervised.eq_recoveryDone {q : Part} (k : p.Supervised now h a b q)
    (st : p.supv[h].health = .recovering) (goal : 249 ≤ p.supv[h].quiet) (quiet : p.quietAt h a b = true) :
    q = (p.quietCounted h a b).recoveryDone now h := by
  cases k with
  | scanned st' _ => exact absurd st st'
  | counted _ low => exact low.elim (fun k => absurd goal (Nat.not_le_of_lt k)) fun k => nomatch quiet.symm.trans k
  | recovered _ _ _ => rfl

theorem Part.completesRecovery_iff :
    p.completesRecovery h a b = true ↔
      p.running = true ∧ p.nextSupvTick.isSome = true ∧ p.nextScan p.ticks.scanNext = some h ∧
        p.supv[h].health = .recovering ∧ 249 ≤ p.supv[h].quiet ∧ p.quietAt h a b = true := by
  rw [Part.quietAt, Part.classed_supv_get]
  simp [Part.completesRecovery, Config.quietGoal, and_assoc]

end

/-- Settles O31. -/
theorem recoveryCompletesAndHeadReturns : Obligations.RecoveryCompletesAndHeadReturns := by
  refine ⟨?_, ?_, ?_⟩
  · intro h n a b v rest s counts e turn used phase le first st goal slot ca cb da db times busy kind target
    have run := counts.counts.running
    have next : s.part.nextScan s.part.ticks.scanNext = some h :=
      s.part.nextScan_eq_some h _ le ((s.part.scannable_iff h).mpr ⟨used, phase⟩) fun g lo lt =>
        (s.part.scannable_eq_false_iff g).mpr (first g lo lt)
    have quiet : s.part.quietAt h a b = true := by
      rw [Part.quietAt_eq, decide_eq_true_iff]
      exact ⟨ca, cb, da, db, times⟩
    have completes : s.part.completesRecovery h a b = true := by
      rw [Part.completesRecovery_iff, s.part.nextSupvTick_of_inTurn v rest e turn]
      exact ⟨run, rfl, next, st, goal.ge, quiet⟩
    have tick : exec (.supervisionTick h a b) s = .next (s.withPart (s.part.supervisionTick h a b)) :=
      State.powered_up _ _ counts.1
    have complete : exec (.recoveryComplete h a b) s = .next (s.withPart (s.part.supervisionTick h a b)) :=
      (State.powered_up _ _ counts.1).trans (by rw [if_pos completes])
    refine ⟨complete.trans tick.symm, _, complete, ?_⟩
    have k := s.part.supervised_superviseHead v h a b
    rw [Part.supervisionTick_of_next h a b e turn run next, k.eq_recoveryDone st goal.ge quiet]
    have counted : (s.part.quietCounted h a b).supv[h].endRecovery .healthy 0 =
        { health := .healthy, score := 0, classA := some .normal, classB := some .normal, quiet := 0,
          restartCount := 0, refTimes := none, restartSlot := none } := by
      rw [Part.quietCounted_supv_get, if_pos rfl, Part.classed_supv_get, ca, cb]
      rfl
    have carried : (s.part.quietCounted h a b).supv[h].restartSlot = some n := by
      rw [Part.quietCounted_supv_get, if_pos rfl, Part.classed_supv_get]
      exact slot
    have others (g : HeadId) (ne : g ≠ h) : (s.part.quietCounted h a b).supv[g] = s.part.supv[g] := by
      rw [Part.quietCounted_supv_get, if_neg ne.symm]
    have kept : (s.part.quietCounted h a b).slots = s.part.slots ∧ (s.part.quietCounted h a b).jrnl = s.part.jrnl ∧
        (s.part.quietCounted h a b).topo = s.part.topo ∧ (s.part.quietCounted h a b).hdec = s.part.hdec ∧
        (s.part.quietCounted h a b).scnt = s.part.scnt ∧ (s.part.quietCounted h a b).gen = s.part.gen ∧
        (s.part.quietCounted h a b).sent = s.part.sent := ⟨rfl, rfl, rfl, rfl, rfl, rfl, rfl⟩
    have c : (s.part.quietCounted h a b).Counts := counts.counts.congr rfl rfl
    generalize s.part.quietCounted h a b = p at *
    obtain ⟨slots, jrnl, topo, hdec, scnt, gen, sent⟩ := kept
    have serves : p.slots[n].serves 3#8 h.val := by
      rw [slots]
      exact ⟨busy, kind, target⟩
    obtain ⟨hdec', scnt', supv', gen', slots', jrnl', topo', -, sent'⟩ := (p.recoveryDone v h).passOn_frame h
    obtain ⟨hdec'', scnt'', gen'', topo'', -⟩ := p.recoveryDone_frame v h
    rw [State.withPart_part, hdec', scnt', supv', gen', slots', jrnl', topo', sent']
    refine ⟨?_, ?_, ?_, ?_, fun g ne => ?_, fun m ne => ?_, hdec''.trans hdec, scnt''.trans scnt, gen''.trans gen,
      topo''.trans topo, rfl, rfl⟩
    · rw [Part.recoveryDone_supv_get, if_pos rfl, counted]
    · rw [Part.recoveryDone_slots_get, if_pos ⟨carried, serves⟩, slots]
    · rw [c.recoveryDone_jrnl, carried]
      refine (if_pos serves).trans ?_
      rw [Part.journalAfter, topo, jrnl, slots]
      rfl
    · rw [Part.recoveryDone_sent, sent]
    · rw [Part.recoveryDone_supv_get, if_neg ne.symm, others g ne]
    · rw [Part.recoveryDone_slots_get, if_neg, slots]
      rintro ⟨held, -⟩
      exact ne (Option.some.inj (held.symm.trans carried))
  · intro h a b s up short
    have no : ¬ s.part.completesRecovery h a b = true := by
      rw [Part.completesRecovery_iff, Part.quietAt_eq, decide_eq_true_iff]
      rintro ⟨-, -, -, st, goal, ca, cb, da, db, times⟩
      rw [da, db] at short
      obtain k | k | k | k | k | k | k := short
      · exact k st
      · exact absurd goal (Nat.not_le_of_lt k)
      · exact k ca
      · exact k cb
      · cases k
      · cases k
      · exact k times
    exact (State.powered_up _ _ up).trans (by rw [if_neg no])
  · intro h s up sent
    have taken : exec (.recoveryReport h) s = .next (s.withPart ((s.part.tookRecovered h).takeRecovery h)) :=
      (State.powered_up _ _ up).trans (by rw [if_pos sent])
    refine ⟨fun run serv off => ?_, fun out => ?_⟩
    · have k : ((s.part.tookRecovered h).running && (s.part.tookRecovered h).supv[h].health.inService &&
          decide ((s.part.tookRecovered h).hdec[h].phase = .off)) = true := by
        simp only [Bool.and_eq_true, decide_eq_true_iff]
        exact ⟨⟨s.part.running_iff.mpr run, (Health.mem_inService _).mpr serv⟩, off⟩
      rw [taken, Part.takeRecovery, if_pos k, HeadDecoder.settleByLevels_eq]
      rfl
    · have k : ¬ ((s.part.tookRecovered h).running && (s.part.tookRecovered h).supv[h].health.inService &&
          decide ((s.part.tookRecovered h).hdec[h].phase = .off)) = true := by
        simp only [Bool.and_eq_true, decide_eq_true_iff]
        rintro ⟨⟨run, serv⟩, -⟩
        exact out.elim (fun k => k (s.part.running_iff.mp run)) fun k => k ((Health.mem_inService _).mp serv)
      rw [taken, Part.takeRecovery, if_neg k]
      rfl

end Sys2Proof.Machine

/-! SUPPORT. SUPV's slow tick, head by head: the restart-limit counts, the ends of restarts by the limit, their slots and
their records (R85, R91, R166). -/

namespace Sys2Proof.Machine

open Sys2Proof

/-- The record of a head after a slow tick (R85). -/
def HeadHealth.afterSlow (v : HeadHealth) (limit : Nat) : HeadHealth :=
  if v.health ≠ .recovering then v
  else if limit ≤ v.restartCount + 1 then v.endRecovery .failed v.score
  else { v with restartCount := v.restartCount + 1 }

/-! ### One head -/

section
variable (p : Part) (now : Word) (h : HeadId)

theorem Part.slowHead_of_not_recovering (st : p.supv[h].health ≠ .recovering) : p.slowHead now h = p := if_pos st

theorem Part.slowHead_of_runsOut (k : p.runsOut h) : p.slowHead now h = p.restartTimesOut now h :=
  (if_neg (not_not_intro k.1)).trans (if_pos k.2)

theorem Part.slowHead_of_counting (st : p.supv[h].health = .recovering)
    (low : ¬ p.topo.params.restartLimit ≤ p.supv[h].restartCount + 1) :
    p.slowHead now h = p.setSupv h { p.supv[h] with restartCount := p.supv[h].restartCount + 1 } :=
  (if_neg (not_not_intro st)).trans (if_neg low)

theorem Part.slowHead_of_not_runsOut (k : ¬ p.runsOut h) :
    (p.slowHead now h).slots = p.slots ∧ (p.slowHead now h).jrnl = p.jrnl := by
  by_cases st : p.supv[h].health = .recovering
  · rw [p.slowHead_of_counting now h st fun limit => k ⟨st, limit⟩]
    exact ⟨rfl, rfl⟩
  · rw [p.slowHead_of_not_recovering now h st]
    exact ⟨rfl, rfl⟩

theorem Part.slowHead_supv_get (g : HeadId) :
    (p.slowHead now h).supv[g] =
      if h = g then p.supv[h].afterSlow p.topo.params.restartLimit else p.supv[g] := by
  rw [HeadHealth.afterSlow]
  by_cases st : p.supv[h].health = .recovering
  · rw [if_neg (not_not_intro st)]
    by_cases limit : p.topo.params.restartLimit ≤ p.supv[h].restartCount + 1
    · rw [p.slowHead_of_runsOut now h ⟨st, limit⟩, Part.restartTimesOut_supv_get, if_pos limit]
    · rw [p.slowHead_of_counting now h st limit, Part.setSupv_get, if_neg limit]
  · rw [p.slowHead_of_not_recovering now h st, if_pos st]
    split_ifs with e
    · rw [e]
    · rfl

theorem Part.slowHead_slots_get (n : SlotId) :
    (p.slowHead now h).slots[n] =
      if p.runsOut h ∧ p.supv[h].restartSlot = some n ∧ p.slots[n].serves 3#8 h.val then
        { p.slots[n] with state := .failed, result := some .timeout }
      else p.slots[n] := by
  by_cases k : p.runsOut h
  · rw [p.slowHead_of_runsOut now h k, Part.restartTimesOut_eq, Part.endRestart_slots_get]
    exact if_congr (and_iff_right k).symm rfl rfl
  · rw [if_neg fun f => k f.1]
    rw [(p.slowHead_of_not_runsOut now h k).1]

@[simp] theorem Part.slowHead_active : (p.slowHead now h).jrnl.active = p.jrnl.active := by
  by_cases k : p.runsOut h
  · rw [p.slowHead_of_runsOut now h k, Part.restartTimesOut_eq, Part.endRestart_active]
  · rw [(p.slowHead_of_not_runsOut now h k).2]

/-- The journal after a slow tick's records at one head (R85). -/
def Part.slowJournal (p : Part) (now : Word) (j : Journal) (h : HeadId) : Journal :=
  if p.runsOut h then
    p.reportJournal now p.supv[h].restartSlot 3#8 h.val .timeout
      (j.take p.topo.params.ringCode now (.head h .recovering .failed p.supv[h].score .restartTimeout none))
  else j

theorem Part.Counts.slowHead_jrnl {p : Part} (c : p.Counts) : (p.slowHead now h).jrnl = p.slowJournal now p.jrnl h := by
  by_cases k : p.runsOut h
  · rw [p.slowHead_of_runsOut now h k, Part.restartTimesOut_eq, c.endRestart_jrnl, Part.slowJournal, if_pos k]
    rfl
  · rw [(p.slowHead_of_not_runsOut now h k).2, Part.slowJournal, if_neg k]

/-- The records of a head go by its record, the parameters and the slots that serve its restart. -/
theorem Part.slowJournal_congr {p q : Part} (topo : q.topo = p.topo) (supv : q.supv[h] = p.supv[h])
    (slots : ∀ n : SlotId, (q.slots[n].serves 3#8 h.val ↔ p.slots[n].serves 3#8 h.val) ∧
      (p.slots[n].serves 3#8 h.val → q.slots[n].token = p.slots[n].token ∧ q.slots[n].target = p.slots[n].target))
    (j : Journal) : q.slowJournal now j h = p.slowJournal now j h := by
  have out : q.runsOut h ↔ p.runsOut h := by
    simp only [Part.runsOut, supv, topo]
  refine if_congr out ?_ rfl
  rw [supv, topo]
  exact p.reportJournal_congr now _ 3#8 h.val .timeout q _ topo fun n _ => slots n

end

/-! ### All heads -/

theorem mem_allHeads (h : HeadId) : h ∈ allHeads := List.mem_finRange h

section
variable (now : Word) (l : List HeadId)

/-- A slow tick at the heads of a list, one after the other (R85; log entry 32). -/
def Part.slowHeads (p : Part) (now : Word) (l : List HeadId) : Part := l.foldl (fun q h => q.slowHead now h) p

theorem Part.slowHeads_keeps (p : Part) :
    (p.slowHeads now l).hdec = p.hdec ∧ (p.slowHeads now l).scnt = p.scnt ∧ (p.slowHeads now l).gen = p.gen ∧
      (p.slowHeads now l).topo = p.topo ∧ (p.slowHeads now l).ticks = p.ticks ∧ (p.slowHeads now l).sent = p.sent := by
  obtain ⟨hdec, scnt, gen, topo, -, ticks, sent⟩ := p.slowHeads_frame now l
  exact ⟨hdec, scnt, gen, topo, ticks, sent⟩

theorem Part.slowHeads_supv_get (p : Part) (nodup : l.Nodup) (g : HeadId) :
    (p.slowHeads now l).supv[g] =
      if g ∈ l then p.supv[g].afterSlow p.topo.params.restartLimit else p.supv[g] := by
  induction l generalizing p with
  | nil => rfl
  | cons h l ih =>
    obtain ⟨fresh, nodup⟩ := List.nodup_cons.mp nodup
    refine (ih (p.slowHead now h) nodup).trans ?_
    rw [Part.slowHead_supv_get, (p.slowHead_frame now h).2.2.2.1]
    by_cases e : h = g
    · subst e
      rw [if_neg fresh, if_pos rfl, if_pos List.mem_cons_self]
    · rw [if_neg e]
      exact if_congr (by simp [Ne.symm e]) rfl rfl

theorem Part.slowHeads_slots_get (p : Part) (nodup : l.Nodup) (n : SlotId) :
    (p.slowHeads now l).slots[n] =
      if ∃ h ∈ l, p.runsOut h ∧ p.supv[h].restartSlot = some n ∧ p.slots[n].serves 3#8 h.val then
        { p.slots[n] with state := .failed, result := some .timeout }
      else p.slots[n] := by
  induction l generalizing p with
  | nil => simp [Part.slowHeads]
  | cons h l ih =>
    obtain ⟨fresh, nodup⟩ := List.nodup_cons.mp nodup
    refine (ih (p.slowHead now h) nodup).trans ?_
    by_cases k : p.runsOut h ∧ p.supv[h].restartSlot = some n ∧ p.slots[n].serves 3#8 h.val
    · rw [Part.slowHead_slots_get, if_pos k]
      refine Eq.trans (if_neg ?_) (if_pos ⟨h, List.mem_cons_self, k⟩).symm
      rintro ⟨g, -, -, -, busy, -⟩
      simp [Slot.busy, SlotState.inProgress] at busy
    · rw [Part.slowHead_slots_get, if_neg k]
      refine if_congr ?_ rfl rfl
      simp only [List.mem_cons, exists_eq_or_imp, k, false_or]
      refine exists_congr fun g => and_congr_right fun hg => ?_
      have ne : ¬ h = g := fun e => fresh (e ▸ hg)
      simp only [Part.runsOut, Part.slowHead_supv_get, if_neg ne, (p.slowHead_frame now h).2.2.2.1]

/-- The records of a slow tick, each head's as it stood before the tick (R85). -/
theorem Part.Counts.slowHeads_jrnl {p : Part} (c : p.Counts) (nodup : l.Nodup) :
    (p.slowHeads now l).jrnl = l.foldl (p.slowJournal now) p.jrnl := by
  suffices gen : ∀ q : Part, q.Counts → q.topo = p.topo →
      (∀ h ∈ l, q.supv[h] = p.supv[h] ∧ ∀ n : SlotId,
        (q.slots[n].serves 3#8 h.val ↔ p.slots[n].serves 3#8 h.val) ∧
        (p.slots[n].serves 3#8 h.val →
          q.slots[n].token = p.slots[n].token ∧ q.slots[n].target = p.slots[n].target)) →
      (q.slowHeads now l).jrnl = l.foldl (p.slowJournal now) q.jrnl from
    gen p c rfl fun _ _ => ⟨rfl, fun _ => ⟨Iff.rfl, fun _ => ⟨rfl, rfl⟩⟩⟩
  induction l with
  | nil => exact fun _ _ _ _ => rfl
  | cons h l ih =>
    intro q cq topo same
    obtain ⟨fresh, nodup⟩ := List.nodup_cons.mp nodup
    have tail := ih nodup (q.slowHead now h) (cq.congr (by simp) (by simp)) (by simpa using topo) fun g hg => by
      obtain ⟨supv, slots⟩ := same g (List.mem_cons_of_mem _ hg)
      have ne : h ≠ g := fun e => fresh (e ▸ hg)
      rw [Part.slowHead_supv_get, if_neg ne]
      refine ⟨supv, fun n => ?_⟩
      rw [Part.slowHead_slots_get]
      split
      · rename_i k
        obtain ⟨-, -, busy, kind, target⟩ := k
        have other : ¬ q.slots[n].serves 3#8 g.val := fun s => ne (Fin.ext (target.symm.trans s.2.2))
        have other' := mt (slots n).1.mpr other
        exact ⟨iff_of_false (fun s => other ⟨busy, s.2⟩) other', fun s => absurd s other'⟩
      · exact slots n
    obtain ⟨supv, slots⟩ := same h List.mem_cons_self
    refine tail.trans ?_
    rw [List.foldl_cons, cq.slowHead_jrnl, Part.slowJournal_congr now h topo supv slots]

end

/-! ### The tick -/

section
variable {p : Part} {v : Word} {rest : List Word}

theorem Part.supvSlowTick_of_not_inTurn (e : p.ticks.slowSupv = v :: rest) (no : ¬ p.slowInTurn v) :
    p.supvSlowTick = p := by
  rw [Part.supvSlowTick, p.nextSlowTick_of_not_slowInTurn v rest e no]

/-- Outside RUNNING the tick is gone without effect (R91). -/
theorem Part.supvSlowTick_of_not_running (e : p.ticks.slowSupv = v :: rest) (turn : p.slowInTurn v)
    (off : p.running = false) : p.supvSlowTick = p.setTicks { p.ticks with slowSupv := rest } := by
  rw [Part.supvSlowTick, p.nextSlowTick_of_slowInTurn v rest e turn, e]
  exact if_neg (Bool.eq_false_iff.mp off)

theorem Part.supvSlowTick_of_running (e : p.ticks.slowSupv = v :: rest) (turn : p.slowInTurn v)
    (run : p.running = true) :
    p.supvSlowTick = (p.setTicks { p.ticks with slowSupv := rest }).slowHeads v allHeads := by
  rw [Part.supvSlowTick, p.nextSlowTick_of_slowInTurn v rest e turn, e]
  exact if_pos run

theorem Part.timesOut_iff (h : HeadId) :
    p.timesOut h = true ↔ p.running = true ∧ p.nextSlowTick.isSome = true ∧ p.runsOut h := by
  simp [Part.timesOut, Part.runsOut, and_assoc]

end

/-- Settles O32. -/
theorem slowTickCountsAndEndsRestarts : Obligations.SlowTickCountsAndEndsRestarts := by
  intro s v rest up e
  have tick : exec (.slowTick .supv) s = .next (s.withPart s.part.supvSlowTick) := State.powered_up _ _ up
  have timeout (h : HeadId) : exec (.restartTimeout h) s =
      .next (if s.part.timesOut h then s.withPart s.part.supvSlowTick else s) := State.powered_up _ _ up
  refine ⟨fun no => ⟨?_, fun h => ?_⟩, fun h out => ?_, fun turn run => ?_, fun turn off => ?_⟩
  · rw [tick, Part.supvSlowTick_of_not_inTurn e no]
    rfl
  · rw [timeout, if_neg]
    rw [Part.timesOut_iff, s.part.nextSlowTick_of_not_slowInTurn v rest e no]
    rintro ⟨-, none, -⟩
    cases none
  · rw [timeout, if_neg]
    rw [Part.timesOut_iff, Part.running_iff]
    rintro ⟨run, -, runs⟩
    exact out.elim (fun k => k run) fun k => k runs
  · have running := s.part.running_iff.mpr run
    have next := s.part.nextSlowTick_of_slowInTurn v rest e turn
    have nodup : allHeads.Nodup := List.nodup_finRange _
    rw [tick, Part.supvSlowTick_of_running e turn running]
    generalize ep : s.part.setTicks { s.part.ticks with slowSupv := rest } = p
    have supv (h : HeadId) : (p.slowHeads v allHeads).supv[h] =
        s.part.supv[h].afterSlow s.part.topo.params.restartLimit := by
      rw [Part.slowHeads_supv_get v allHeads p nodup, if_pos (mem_allHeads h), ← ep]
      rfl
    obtain ⟨hdec, scnt, gen, topo, ticks, sent⟩ := p.slowHeads_keeps v allHeads
    have slots := Part.slowHeads_slots_get v allHeads p nodup
    have jrnl (c : p.Counts) := c.slowHeads_jrnl v allHeads nodup
    have again (h : HeadId) (runs : s.part.runsOut h) :
        exec (.restartTimeout h) s = .next (s.withPart (p.slowHeads v allHeads)) := by
      rw [timeout, if_pos, Part.supvSlowTick_of_running e turn running, ep]
      rw [Part.timesOut_iff, next]
      exact ⟨running, rfl, runs⟩
    generalize p.slowHeads v allHeads = q at *
    subst ep
    refine ⟨s.withPart q, rfl, fun h st low => ?_, fun h st limit => ⟨?_, again h ⟨st, limit⟩⟩, fun h st => ?_,
      fun n => ?_, fun active => ?_, ticks, hdec, scnt, gen, topo, sent, rfl, rfl⟩
    · rw [State.withPart_part, supv, HeadHealth.afterSlow, if_neg (not_not_intro st), if_neg (Nat.not_le_of_lt low)]
    · rw [State.withPart_part, supv, HeadHealth.afterSlow, if_neg (not_not_intro st), if_pos limit]
      rfl
    · rw [State.withPart_part, supv, HeadHealth.afterSlow, if_pos st]
    · rw [State.withPart_part, slots]
      refine if_congr ?_ rfl rfl
      simp only [mem_allHeads, true_and]
      refine ⟨fun ⟨h, runs, slot, busy, kind, target⟩ => ⟨busy, kind, h, target, slot, runs⟩,
        fun ⟨busy, kind, h, target, slot, runs⟩ => ⟨h, runs, slot, busy, kind, target⟩⟩
    · exact jrnl ⟨run, active⟩
  · rw [tick, Part.supvSlowTick_of_not_running e turn (Bool.eq_false_of_not_eq_true (mt s.part.running_iff.mp off))]
    rfl

end Sys2Proof.Machine

/-! SUPPORT. TGEN's ticks within a step, the steps of the pattern, the ends of a test by pass and fail (R95 to R101). -/

namespace Sys2Proof.Machine

open Sys2Proof

/-! ### The ends of a test -/

/-- A test ends: the generator, the head out of TEST, the TEST record, the slot's final state, and the score report
(R100, R101). -/
def Part.testEnds (p : Part) (h : HeadId) (g : Generator) (d : Detail) (st : SlotState) (r : Result) (m : ToSupv) : Part :=
  ((((p.setGen g).leaveTest h).record p.tbase.ms d).reportTest h p.gen.slot st r).sendSupv m

theorem Part.testPasses_eq (p : Part) (h : HeadId) :
    p.testPasses h =
      p.testEnds h { p.gen.toIdle with reportPending := true } (.test h p.gen.dir .pass none none) .done .ok
        (.testPassed h) := rfl

theorem Part.testFails_eq (p : Part) (h : HeadId) (check : TestCheck) :
    p.testFails h check =
      p.testEnds h { p.gen.release p.hdec[h] with reportPending := true }
        (.test h p.gen.dir .fail (some p.gen.step) (some check)) .failed .testFail (.testFailed h) := rfl

theorem Part.reportSlot_slots_of_serves (p : Part) (now : Word) (n : SlotId) (kind : Byte) (object : Nat)
    (st : SlotState) (r : Result) (k : p.slots[n].serves kind object) :
    (p.reportSlot now (some n) kind object st r).slots = p.slots.set n { p.slots[n] with state := st, result := some r } := by
  obtain ⟨busy, rfl, target⟩ := k
  exact (p.report_slots now n _ object st r).trans (if_pos ⟨busy, rfl, target⟩)

section
variable {p : Part} {h : HeadId} (g : Generator) (d : Detail) (st : SlotState) (r : Result) (m : ToSupv)

/-- A head leaves TEST by its levels (R15). -/
theorem Part.leaveTest_hdec (p : Part) (h : HeadId) :
    (p.leaveTest h).hdec = p.hdec.set h (p.hdec[h].placed p.tbase.ms) := by
  rw [Part.leaveTest, HeadDecoder.settleByLevels_eq]
  rfl

theorem Part.testEnds_keeps (p : Part) (h : HeadId) :
    (p.testEnds h g d st r m).gen = g ∧
      (p.testEnds h g d st r m).hdec = p.hdec.set h (p.hdec[h].placed p.tbase.ms) ∧
      (p.testEnds h g d st r m).sent = { p.sent with supv := p.sent.supv ++ [m] } ∧
      (p.testEnds h g d st r m).scnt = p.scnt ∧ (p.testEnds h g d st r m).supv = p.supv ∧
      (p.testEnds h g d st r m).topo = p.topo := by
  simp [Part.testEnds, Part.leaveTest_hdec]

/-- The slot that the test serves reaches its final state (R147). -/
theorem Part.testEnds_slots {n : SlotId} (slot : p.gen.slot = some n) (serves : p.slots[n].serves 4#8 h.val) :
    (p.testEnds h g d st r m).slots = p.slots.set n { p.slots[n] with state := st, result := some r } := by
  generalize eq : ((p.setGen g).leaveTest h).record p.tbase.ms d = q
  have slots : q.slots = p.slots := by
    rw [← eq]
    simp
  have k := q.reportSlot_slots_of_serves q.tbase.ms n 4#8 h.val st r (by rw [slots]; exact serves)
  rw [slots] at k
  rw [Part.testEnds, eq, slot, Part.reportTest_eq]
  exact k

theorem Part.Counts.testEnds_jrnl (c : p.Counts) {n : SlotId} (slot : p.gen.slot = some n)
    (serves : p.slots[n].serves 4#8 h.val) :
    (p.testEnds h g d st r m).jrnl =
      (p.journalAfter p.tbase.ms d).take p.topo.params.ringCode p.tbase.ms
        (.request n 4#8 p.slots[n].target p.slots[n].token r) := by
  have c' : ((p.setGen g).leaveTest h).Counts := c.congr (by simp) (by simp)
  have jrnl := c'.record_jrnl p.tbase.ms d
  have cq := c'.record p.tbase.ms d
  generalize eq : ((p.setGen g).leaveTest h).record p.tbase.ms d = q at jrnl cq
  have kept : q.slots = p.slots ∧ q.topo = p.topo ∧ q.tbase = p.tbase := by
    rw [← eq]
    simp
  obtain ⟨slots, topo, tbase⟩ := kept
  have k := cq.reportSlot_jrnl q q.tbase.ms (some n) 4#8 h.val st r
  rw [Part.testEnds, eq, slot, Part.reportTest_eq, Part.sendSupv_jrnl, k]
  refine (if_pos (by rw [slots]; exact serves)).trans ?_
  rw [jrnl, slots, topo, tbase]
  simp [Part.journalAfter]

end

/-- The blocks `q` after a fail of the test of head `h` that serves slot `n` (R101). -/
structure Part.TestFailed (p : Part) (h : HeadId) (n : SlotId) (d : Direction) (check : TestCheck) (q : Part) : Prop where
  state : q.gen.state = .releasing
  target : q.gen.target = some h
  slot : q.gen.slot = none
  direction : q.gen.direction = some d
  left : q.gen.releaseLeft = some 5
  allowed : q.gen.releaseA = p.hdec[h].sensorA.damped ∧ q.gen.releaseB = p.hdec[h].sensorB.damped
  pending : q.gen.reportPending = true
  undriven : q.gen.expectA = false ∧ q.gen.expectB = false
  hdec : q.hdec = p.hdec.set h (p.hdec[h].placed p.tbase.ms)
  slots : q.slots = p.slots.set n { p.slots[n] with state := .failed, result := some .testFail }
  jrnl : p.Counts →
    q.jrnl = (p.journalAfter p.tbase.ms (.test h d .fail (some p.gen.step) (some check))).take p.topo.params.ringCode
      p.tbase.ms (.request n 4#8 p.slots[n].target p.slots[n].token .testFail)
  sent : q.sent = { p.sent with supv := p.sent.supv ++ [.testFailed h] }
  frame : q.scnt = p.scnt ∧ q.supv = p.supv ∧ q.topo = p.topo

theorem Generator.dir_of_some {g : Generator} {d : Direction} (dir : g.direction = some d) : g.dir = d := by
  rw [Generator.dir, dir]
  rfl

theorem Part.testFailed_testFails {p : Part} {h : HeadId} {n : SlotId} {d : Direction} (check : TestCheck)
    (target : p.gen.target = some h) (slot : p.gen.slot = some n) (dir : p.gen.direction = some d)
    (serves : p.slots[n].serves 4#8 h.val) : p.TestFailed h n d check (p.testFails h check) := by
  rw [Part.testFails_eq, Generator.dir_of_some dir]
  generalize ed : Detail.test h d .fail (some p.gen.step) (some check) = e
  generalize eg : ({ p.gen.release p.hdec[h] with reportPending := true } : Generator) = g
  obtain ⟨gen, hdec, sent, frame⟩ := p.testEnds_keeps g e .failed .testFail (.testFailed h) h
  have fields : g.state = .releasing ∧ g.target = some h ∧ g.slot = none ∧ g.direction = some d ∧ g.releaseLeft = some 5 ∧
      (g.releaseA = p.hdec[h].sensorA.damped ∧ g.releaseB = p.hdec[h].sensorB.damped) ∧ g.reportPending = true ∧
      (g.expectA = false ∧ g.expectB = false) := by
    rw [← eg]
    exact ⟨rfl, target, rfl, dir, rfl, ⟨rfl, rfl⟩, rfl, rfl, rfl⟩
  rw [← gen] at fields
  obtain ⟨state, target, none, dir, left, allowed, pending, undriven⟩ := fields
  exact ⟨state, target, none, dir, left, allowed, pending, undriven, hdec, Part.testEnds_slots g e _ _ _ slot serves,
    fun c => ed ▸ c.testEnds_jrnl g e _ _ _ slot serves, sent, frame⟩

/-! ### Ticks within a step -/

section
variable {p : Part} {h : HeadId}

/-- A tick within a step closes the window when it does that, and asks for the sample when it does that (R96, R98). -/
theorem Part.tickWithinStep_eq (target : p.gen.target = some h) :
    p.tickWithinStep =
      { p with
        gen := { p.gen with followOpen := p.gen.followOpen && !p.gen.closesWindow p.tbase.ms, tickDue := false }
        sent :=
          { p.sent with
            asks := p.sent.asks ++
              if p.gen.midStep p.tbase.ms p.topo.params.stepTime = true then
                [{ h := h, serial := p.gen.serial }]
              else [] } } := by
  rw [Part.tickWithinStep, target]
  by_cases k : p.gen.midStep p.tbase.ms p.topo.params.stepTime = true
  · simp only [k, if_true]
    rfl
  · simp only [k, if_false, Bool.false_eq_true, List.append_nil]
    rfl

end

section
variable (g : Generator) (ms : Word) (t : Nat)

theorem Generator.midStep_iff :
    g.midStep ms t = true ↔ g.step = 2 ∧ g.stepStart = some (ms - BitVec.ofNat 32 (t / 2)) := by
  simp [Generator.midStep]

theorem Generator.closesWindow_iff :
    g.closesWindow ms = true ↔ 1 ≤ g.step ∧ g.followOpen = true ∧ g.stepStart = some (ms - 1#32) := by
  simp [Generator.closesWindow, and_assoc]

theorem Generator.atDeadline_iff : g.atDeadline ms = true ↔ 1 ≤ g.step ∧ g.stepDeadline = some ms := by
  simp [Generator.atDeadline]

end

/-! ### Samples -/

section
variable (p : Part) (a : SampleAnswer)

/-- An answer fails the test that asked for it, in step 2, unless both systems were damped (R98). -/
theorem Part.judgeAnswer_of_fails {h : HeadId} (target : p.gen.target = some h) (run : p.gen.state = .running)
    (step : p.gen.step = 2) (asked : p.gen.serial = a.serial) (bad : ¬(a.classA = .damped ∧ a.classB = .damped)) :
    p.judgeAnswer a = p.testFails h .midSample := by
  rw [Part.judgeAnswer, target]
  exact (if_pos ⟨run, step, asked⟩).trans (if_neg bad)

theorem Part.judgeAnswer_of_good
    (good : (a.classA = .damped ∧ a.classB = .damped) ∨ p.gen.state ≠ .running ∨ p.gen.step ≠ 2 ∨
      p.gen.serial ≠ a.serial) : p.judgeAnswer a = p := by
  rw [Part.judgeAnswer]
  cases p.gen.target with
  | none => rfl
  | some h =>
    by_cases k : p.gen.state = .running ∧ p.gen.step = 2 ∧ p.gen.serial = a.serial
    · refine (if_pos k).trans (if_pos (good.resolve_right ?_))
      rintro (no | no | no)
      · exact no k.1
      · exact no k.2.1
      · exact no k.2.2
    · exact if_neg k

end

/-- Settles O33. -/
theorem midStepSampleAskedAndAnswered : Obligations.MidStepSampleAskedAndAnswered := by
  intro s up
  refine ⟨fun h t0 run due target step start at_ => ?_, fun a b q rest run asks => ?_, fun a rest answers good => ?_,
    fun a rest h n d answers bad run step asked target slot dir busy kind object => ?_⟩
  · have mid : s.part.gen.midStep s.part.tbase.ms s.part.topo.params.stepTime = true := by
      rw [Generator.midStep_iff, start, at_, BitVec.add_sub_cancel]
      exact ⟨step, rfl⟩
    have closes : (s.part.gen.followOpen && !s.part.gen.closesWindow s.part.tbase.ms) =
        (s.part.gen.followOpen && !decide (s.part.tbase.ms = t0 + 1#32)) := by
      have iff : s.part.gen.closesWindow s.part.tbase.ms = true ↔
          s.part.gen.followOpen = true ∧ s.part.tbase.ms = t0 + 1#32 := by
        rw [Generator.closesWindow_iff, start, Option.some_inj, step]
        have : t0 = s.part.tbase.ms - 1#32 ↔ s.part.tbase.ms = t0 + 1#32 := by bv_omega
        simp [this]
      rw [Bool.eq_iff_iff]
      simp only [Bool.and_eq_true, Bool.not_eq_true', ← Bool.not_eq_true, iff, decide_eq_true_eq]
      grind
    have tick : s.part.midStepSample = s.part.tickWithinStep := if_pos ⟨due, run, mid⟩
    refine (State.powered_up _ _ up).trans ?_
    rw [tick, Part.tickWithinStep_eq target, if_pos mid, closes]
  · have taken : s.part.takeSample a b =
        (s.part.setSent { s.part.sent with asks := rest }).sendAnswer
          { classA := s.part.topo.params.ampClass a, classB := s.part.topo.params.ampClass b, serial := q.serial } := by
      rw [Part.takeSample, asks]
      exact if_pos (s.part.running_iff.mpr run)
    refine (State.powered_up _ _ up).trans ?_
    rw [taken]
    rfl
  · have taken : s.part.takeAnswer = (s.part.setSent { s.part.sent with answers := rest }).judgeAnswer a := by
      rw [Part.takeAnswer, answers]
    refine (State.powered_up _ _ up).trans ?_
    rw [taken, Part.judgeAnswer_of_good (s.part.setSent { s.part.sent with answers := rest }) a good]
    rfl
  · have taken : s.part.takeAnswer = (s.part.setSent { s.part.sent with answers := rest }).judgeAnswer a := by
      rw [Part.takeAnswer, answers]
    generalize ep : s.part.setSent { s.part.sent with answers := rest } = p at taken
    have kept : p.gen = s.part.gen ∧ p.slots = s.part.slots ∧ p.hdec = s.part.hdec ∧ p.tbase = s.part.tbase ∧
        p.topo = s.part.topo ∧ p.jrnl = s.part.jrnl ∧ p.scnt = s.part.scnt ∧ p.supv = s.part.supv ∧
        p.sent = { s.part.sent with answers := rest } := by
      rw [← ep]
      exact ⟨rfl, rfl, rfl, rfl, rfl, rfl, rfl, rfl, rfl⟩
    obtain ⟨gen, slots, hdec, tbase, topo, jrnl, scnt, supv, sent⟩ := kept
    rw [← gen] at run step asked target slot dir
    rw [p.judgeAnswer_of_fails a target run step asked bad] at taken
    have failed : p.TestFailed h n d .midSample (p.testFails h .midSample) :=
      Part.testFailed_testFails .midSample target slot dir (by rw [slots]; exact ⟨busy, kind, object⟩)
    rw [← taken] at failed
    obtain ⟨scnt', supv', topo'⟩ := failed.frame
    refine ⟨_, State.powered_up _ _ up, failed.state, failed.target, failed.slot, failed.left,
      failed.allowed.1.trans (by rw [hdec]), failed.allowed.2.trans (by rw [hdec]), failed.pending,
      failed.hdec.trans (by rw [hdec, tbase]), failed.slots.trans (by rw [slots]), fun counts => ?_,
      failed.sent.trans (by rw [sent]), scnt'.trans scnt, supv'.trans supv, topo'.trans topo, rfl, rfl⟩
    have c : p.Counts := counts.counts.congr topo (by rw [jrnl])
    refine (failed.jrnl c).trans ?_
    rw [Part.journalAfter, jrnl, topo, tbase, slots, step]
    rfl

end Sys2Proof.Machine

/-! SUPPORT. The pattern: its start, the follow window, the deadlines of its steps (R95 to R101). -/

namespace Sys2Proof.Machine

open Sys2Proof

/-! ### Levels and drive -/

/-- The levels of the steps behind the first (R95). -/
theorem stepDrive_of_later (d : Direction) {k : Nat} (lo : 2 ≤ k) (hi : k ≤ 4) :
    stepDrive d k =
      (if d = .aToB then decide (k = 2) else decide (k ≠ 4), if d = .aToB then decide (k ≠ 4) else decide (k = 2)) := by
  obtain rfl | rfl | rfl : k = 2 ∨ k = 3 ∨ k = 4 := by omega
  all_goals cases d <;> rfl

theorem stepDrive_one (d : Direction) : stepDrive d 1 = (decide (d = .aToB), decide (d = .bToA)) := by
  cases d <;> rfl

section
variable (g : Generator) (h : HeadId)

theorem Generator.drive_of_running (run : g.state = .running) (target : g.target = some h) :
    g.drive h .sysA = g.expectA ∧ g.drive h .sysB = g.expectB := by
  simp [Generator.drive, run, target]

theorem Generator.drive_of_other (y : System) (other : g.target ≠ some h ∨ g.state ≠ .running) : g.drive h y = false := by
  cases y <;> simp [Generator.drive] <;> tauto

end

/-- Settles O34. -/
theorem patternStartsAndFollowWindowCloses : Obligations.PatternStartsAndFollowWindowCloses := by
  refine ⟨fun s d up run due dir => ⟨fun step => ?_, fun h target step open_ start => ?_⟩, fun g h => ⟨?_, ?_, ?_⟩⟩
  · have started : s.part.patternStart =
        s.part.setGen (s.part.gen.tickTaken.beginStep 1 s.part.tbase.ms s.part.topo.params.stepTime) :=
      if_pos ⟨due, run, step⟩
    refine (State.powered_up _ _ up).trans ?_
    rw [started, Generator.beginStep, stepDrive_one, Generator.dir_of_some (g := s.part.gen.tickTaken) dir]
    rfl
  · have closes : s.part.gen.closesWindow s.part.tbase.ms = true :=
      (s.part.gen.closesWindow_iff _).mpr ⟨step, open_, start⟩
    have closed : s.part.followWindowClose = s.part.tickWithinStep := if_pos ⟨due, run, closes⟩
    refine (State.powered_up _ _ up).trans ?_
    rw [closed, Part.tickWithinStep_eq target, closes, Bool.not_true, Bool.and_false]
    simp only [Generator.midStep_iff]
  · exact g.drive_of_running h
  · exact fun y other => g.drive_of_other h y (.inl other)
  · refine fun y st => g.drive_of_other h y (.inr fun run => ?_)
    rw [run] at st
    exact st.elim nofun nofun

/-! ### The deadline of a step -/

section
variable {p : Part} {h : HeadId}

theorem Part.stepDeadline_of_due (target : p.gen.target = some h) (run : p.gen.state = .running)
    (due : p.gen.tickDue = true) (step : 1 ≤ p.gen.step) (deadline : p.gen.stepDeadline = some p.tbase.ms) :
    p.stepDeadline = (p.setGen p.gen.tickTaken).stepEnds h := by
  rw [Part.stepDeadline, target]
  exact if_pos ⟨due, run, (p.gen.atDeadline_iff _).mpr ⟨step, deadline⟩⟩

theorem Part.stepEnds_of_missing (missing : p.gen.response = false) :
    p.stepEnds h = p.testFails h .missingResponse := if_pos (by rw [missing]; rfl)

/-- A response before the last step opens the next (R97). -/
theorem Part.stepEnds_of_earlier (seen : p.gen.response = true) (lt : p.gen.step < 4) :
    p.stepEnds h = p.setGen (p.gen.beginStep (p.gen.step + 1) p.tbase.ms p.topo.params.stepTime) :=
  (if_neg (by rw [seen]; exact nofun)).trans (if_pos lt)

theorem Part.stepEnds_of_passes (seen : p.gen.response = true) (last : p.gen.step = 4) (passes : p.gen.passes = true) :
    p.stepEnds h = p.testPasses h :=
  (if_neg (by rw [seen]; exact nofun)).trans ((if_neg (by omega)).trans (if_pos passes))

theorem Part.stepEnds_of_noPassage (seen : p.gen.response = true) (last : p.gen.step = 4)
    (no : ¬ p.gen.passes = true) : p.stepEnds h = p.testFails h .noPassage :=
  (if_neg (by rw [seen]; exact nofun)).trans ((if_neg (by omega)).trans (if_neg no))

theorem Generator.passes_iff (g : Generator) {d : Direction} (dir : g.direction = some d) :
    g.passes = true ↔ g.outcomes = [(.counted, d)] ∧ g.shadowSeparation = false := by
  simp [Generator.passes, Generator.dir_of_some dir]

end

theorem HeadDecoder.placed_phase_of_free {x : HeadDecoder} (ms : Word) (a : x.sensorA.damped = false)
    (b : x.sensorB.damped = false) : (x.placed ms).phase = .idle := by
  simp [HeadDecoder.placed, HeadDecoder.free, a, b]

/-- Settles O36. -/
theorem stepDeadlineEndsStep : Obligations.StepDeadlineEndsStep := by
  intro s h n d counts run due target slot dir lo hi deadline busy kind object
  have taken := Part.stepDeadline_of_due target run due lo deadline
  generalize ep : s.part.setGen s.part.gen.tickTaken = p at taken
  have gen : p.gen = s.part.gen.tickTaken := by
    rw [← ep]
    rfl
  have kept : p.slots = s.part.slots ∧ p.hdec = s.part.hdec ∧ p.tbase = s.part.tbase ∧ p.topo = s.part.topo ∧
      p.jrnl = s.part.jrnl ∧ p.scnt = s.part.scnt ∧ p.supv = s.part.supv ∧ p.sent = s.part.sent := by
    rw [← ep]
    exact ⟨rfl, rfl, rfl, rfl, rfl, rfl, rfl, rfl⟩
  obtain ⟨slots, hdec, tbase, topo, jrnl, scnt, supv, sent⟩ := kept
  have serves : p.slots[n].serves 4#8 h.val := by
    rw [slots]
    exact ⟨busy, kind, object⟩
  have c : p.Counts := counts.counts.congr topo (by rw [jrnl])
  have dir' : p.gen.direction = some d := by
    rw [gen]
    exact dir
  have target' : p.gen.target = some h := by
    rw [gen]
    exact target
  have slot' : p.gen.slot = some n := by
    rw [gen]
    exact slot
  have response : p.gen.response = s.part.gen.response := by rw [gen]; rfl
  have step : p.gen.step = s.part.gen.step := by rw [gen]; rfl
  have exec_ : exec .stepDeadline s = .next (s.withPart s.part.stepDeadline) := State.powered_up _ _ counts.1
  refine ⟨fun seen lt => ?_, fun seen last outcomes shadow => ?_, fun check cases => ?_⟩
  · rw [exec_, taken, Part.stepEnds_of_earlier (response.trans seen) (step ▸ lt), Generator.beginStep,
      Generator.dir_of_some dir', step, stepDrive_of_later d (by omega) (by omega), ← ep]
    rfl
  · have passes : p.gen.passes = true := by
      rw [p.gen.passes_iff dir', gen]
      exact ⟨outcomes, shadow⟩
    rw [exec_, taken, Part.stepEnds_of_passes (response.trans seen) (step.trans last) passes, Part.testPasses_eq,
      Generator.dir_of_some dir']
    obtain ⟨gen', hdec', sent', scnt', supv', topo'⟩ := p.testEnds_keeps { p.gen.toIdle with reportPending := true }
      (.test h d .pass none none) .done .ok (.testPassed h) h
    have slots' := Part.testEnds_slots { p.gen.toIdle with reportPending := true }
      (.test h d .pass none none) .done .ok (.testPassed h) slot' serves
    have jrnl' := c.testEnds_jrnl { p.gen.toIdle with reportPending := true }
      (.test h d .pass none none) .done .ok (.testPassed h) slot' serves
    generalize p.testEnds h _ _ _ _ _ = q at *
    have idle : q.gen.state = .idle ∧ q.gen.target = none ∧ q.gen.slot = none ∧ q.gen.direction = none ∧
        q.gen.reportPending = true := by
      rw [gen']
      exact ⟨rfl, rfl, rfl, rfl, rfl⟩
    obtain ⟨state, none, none', none'', pending⟩ := idle
    rw [hdec, tbase] at hdec'
    refine ⟨_, rfl, state, none, none', none'', pending, fun a b => ?_, hdec', slots'.trans (by rw [slots]), ?_,
      sent'.trans (by rw [sent]), scnt'.trans scnt, supv'.trans supv, topo'.trans topo, rfl, rfl⟩
    · have placed := s.part.setHdec_get h h (s.part.hdec[h].placed s.part.tbase.ms)
      rw [if_pos rfl] at placed
      rw [State.withPart_part, hdec']
      exact (congrArg HeadDecoder.phase placed).trans (HeadDecoder.placed_phase_of_free _ a b)
    · refine jrnl'.trans ?_
      rw [Part.journalAfter, jrnl, topo, tbase, slots]
      rfl
  · have ends : p.stepEnds h = p.testFails h check := by
      obtain ⟨missing, rfl⟩ | ⟨seen, last, rfl, bad⟩ := cases
      · exact Part.stepEnds_of_missing (response.trans missing)
      · refine Part.stepEnds_of_noPassage (response.trans seen) (step.trans last) ?_
        rw [p.gen.passes_iff dir', gen]
        rintro ⟨outcomes, shadow⟩
        refine bad.elim (fun k => k outcomes) fun k => ?_
        cases k.symm.trans shadow
    have failed := Part.testFailed_testFails check target' slot' dir' serves
    rw [exec_, taken, ends]
    generalize p.testFails h check = q at failed
    obtain ⟨scnt', supv', topo'⟩ := failed.frame
    refine ⟨_, rfl, failed.state, failed.target, failed.slot, failed.direction, failed.left,
      failed.allowed.1.trans (by rw [hdec]), failed.allowed.2.trans (by rw [hdec]), failed.pending, failed.undriven.1,
      failed.undriven.2, failed.hdec.trans (by rw [hdec, tbase]), failed.slots.trans (by rw [slots]), ?_,
      failed.sent.trans (by rw [sent]), scnt'.trans scnt, supv'.trans supv, topo'.trans topo, rfl, rfl⟩
    refine (failed.jrnl c).trans ?_
    rw [Part.journalAfter, jrnl, topo, tbase, slots, step]
    rfl

end Sys2Proof.Machine

/-! SUPPORT. TGEN's judgement of a copied edge (R96, R102, R104). -/

namespace Sys2Proof.Machine

open Sys2Proof

/-! ### What is expected -/

/-- The responses that the steps expect, one for each direction and step (R95). -/
theorem stepResponse_eq_some_iff (d : Direction) (k : Nat) (y : System) (e : EdgeDir) :
    stepResponse d k = some (y, e) ↔
      (k, d, y, e) ∈
        [(1, .aToB, .sysA, .rising), (2, .aToB, .sysB, .rising), (3, .aToB, .sysA, .falling),
          (4, .aToB, .sysB, .falling), (1, .bToA, .sysB, .rising), (2, .bToA, .sysA, .rising),
          (3, .bToA, .sysB, .falling), (4, .bToA, .sysA, .falling)] := by
  obtain k0 | rfl | rfl | rfl | rfl : (k = 0 ∨ 5 ≤ k) ∨ k = 1 ∨ k = 2 ∨ k = 3 ∨ k = 4 := by omega
  · have none : stepResponse d k = .none := by
      unfold stepResponse
      split <;> simp_all
    rw [none]
    refine iff_of_false nofun fun mem => ?_
    simp only [List.mem_cons, Prod.mk.injEq, List.not_mem_nil, or_false] at mem
    omega
  all_goals cases d <;> cases y <;> cases e <;> simp [stepResponse]

theorem Generator.expects_iff (g : Generator) (c : EdgeCopy) {d : Direction} (dir : g.direction = some d) :
    g.expects c = true ↔
      (g.step, d, c.y, c.d) ∈
        [(1, .aToB, .sysA, .rising), (2, .aToB, .sysB, .rising), (3, .aToB, .sysA, .falling),
          (4, .aToB, .sysB, .falling), (1, .bToA, .sysB, .rising), (2, .bToA, .sysA, .rising),
          (3, .bToA, .sysB, .falling), (4, .bToA, .sysA, .falling)] ∧
        g.followOpen = true ∧ g.response = false := by
  rw [← stepResponse_eq_some_iff, Generator.expects, Generator.dir_of_some dir]
  have step : stepResponse d g.step = some (c.y, c.d) → 1 ≤ g.step := fun k => Nat.one_le_iff_ne_zero.mpr fun zero => by
    rw [zero] at k
    cases d <;> cases k
  simp only [Bool.and_eq_true, decide_eq_true_eq, Bool.not_eq_true']
  tauto

/-! ### The judgement -/

section
variable {p : Part} {c : EdgeCopy}

theorem Part.judgeCopy_of_other (other : p.gen.target ≠ some c.h) : p.judgeCopy c = p := if_pos other

theorem Part.judgeCopy_of_idle (idle : p.gen.state = .idle) : p.judgeCopy c = p := by
  by_cases target : p.gen.target = some c.h
  · refine (if_neg (not_not_intro target)).trans ?_
    rw [idle]
  · exact p.judgeCopy_of_other target

theorem Part.judgeCopy_of_running (target : p.gen.target = some c.h) (run : p.gen.state = .running) :
    p.judgeCopy c =
      if p.gen.expects c = true then p.setGen { p.gen with response := true } else p.testAborts c.h := by
  refine (if_neg (not_not_intro target)).trans ?_
  rw [run]

/-- The release of a system that was held damped is expected once (R104). -/
theorem Part.judgeCopy_of_released (target : p.gen.target = some c.h) (rel : p.gen.state = .releasing)
    (fall : c.d = .falling) :
    (c.y = .sysA → p.gen.releaseA = true → p.judgeCopy c = p.setGen { p.gen with releaseA := false }) ∧
      (c.y = .sysB → p.gen.releaseB = true → p.judgeCopy c = p.setGen { p.gen with releaseB := false }) := by
  refine ⟨fun y held => ?_, fun y held => ?_⟩ <;>
    · refine (if_neg (not_not_intro target)).trans ?_
      rw [rel, fall, y]
      exact if_pos held

theorem Part.judgeCopy_of_unreleased (target : p.gen.target = some c.h) (rel : p.gen.state = .releasing)
    (bad : c.d = .rising ∨ (c.y = .sysA ∧ p.gen.releaseA = false) ∨ (c.y = .sysB ∧ p.gen.releaseB = false)) :
    p.judgeCopy c = p.releaseAborts c.h .unexpectedEdge := by
  refine (if_neg (not_not_intro target)).trans ?_
  rw [rel]
  obtain ⟨h, y, d⟩ := c
  cases d with
  | rising => rfl
  | falling =>
    obtain bad | ⟨rfl, off⟩ | ⟨rfl, off⟩ := bad
    · cases bad
    · exact if_neg (Bool.eq_false_iff.mp off)
    · exact if_neg (Bool.eq_false_iff.mp off)

theorem Part.takeCopy_of_cons {rest : List EdgeCopy} (copies : p.sent.copies = c :: rest) :
    p.takeCopy = (p.setSent { p.sent with copies := rest }).judgeCopy c := by
  rw [Part.takeCopy, copies]

end

/-! ### An abort -/

section
variable (p : Part) (h : HeadId)

/-- The sections of an abort break sweeps alone: a slot that serves a test stays as it is (R43). -/
theorem Part.slotDisturbed_of_test (n : SlotId) {object : Nat}
    (k : p.slots[n].serves 4#8 object ∨ (p.slotDisturbed h n).serves 4#8 object) : p.slotDisturbed h n = p.slots[n] := by
  refine if_neg fun ⟨busy, kind, broken⟩ => ?_
  obtain ⟨-, four, -⟩ | ⟨serves, -⟩ := k
  · rw [kind] at four
    cases four
  · rw [Part.slotDisturbed, if_pos ⟨busy, kind, broken⟩] at serves
    cases serves

theorem Part.slotDisturbed_serves (n : SlotId) (object : Nat) :
    (p.slotDisturbed h n).serves 4#8 object ↔ p.slots[n].serves 4#8 object :=
  ⟨fun k => p.slotDisturbed_of_test h n (.inr k) ▸ k, fun k => (p.slotDisturbed_of_test h n (.inl k)).symm ▸ k⟩

/-- The blocks of an abort before SCNT has the notice: the generator, the head and the TEST record (R102). -/
def Part.testDropped (p : Part) (h : HeadId) : Part :=
  ((p.setGen p.gen.toIdle).leaveTest h).record p.tbase.ms
    (.test h p.gen.dir .abort (recordStep p.gen.step) (some .unexpectedEdge))

theorem Part.testAborts_eq :
    p.testAborts h =
      ((p.testDropped h).disturbAdjacent p.tbase.ms h .testAbort).reportTest h p.gen.slot .failed .testAbort := rfl

theorem Part.testDropped_keeps :
    (p.testDropped h).gen = p.gen.toIdle ∧
      (p.testDropped h).hdec = p.hdec.set h (p.hdec[h].placed p.tbase.ms) ∧ (p.testDropped h).scnt = p.scnt ∧
      (p.testDropped h).slots = p.slots ∧ (p.testDropped h).topo = p.topo ∧ (p.testDropped h).tbase = p.tbase := by
  simp [Part.testDropped, Part.leaveTest_hdec]

theorem Part.Counts.testDropped {p : Part} (c : p.Counts) :
    (p.testDropped h).Counts ∧
      (p.testDropped h).jrnl =
        p.journalAfter p.tbase.ms (.test h p.gen.dir .abort (recordStep p.gen.step) (some .unexpectedEdge)) := by
  have c' : ((p.setGen p.gen.toIdle).leaveTest h).Counts := c.congr (by simp) (by simp)
  refine ⟨c'.record _ _, (c'.record_jrnl _ _).trans ?_⟩
  simp [Part.journalAfter]

theorem Part.testAborts_gen : (p.testAborts h).gen = p.gen.toIdle := by
  simp [Part.testAborts_eq, (p.testDropped_keeps h).1]

theorem Part.testAborts_hdec : (p.testAborts h).hdec = p.hdec.set h (p.hdec[h].placed p.tbase.ms) := by
  simp [Part.testAborts_eq, (p.testDropped_keeps h).2.1]

theorem Part.testAborts_scnt : (p.testAborts h).scnt = ((p.testDropped h).disturbAdjacent p.tbase.ms h .testAbort).scnt := by
  simp [Part.testAborts_eq]

theorem Part.testAborts_scnt_get (two : p.twoSections h) (i : SectionId) (hi : i ∈ p.adjacent h) :
    (p.testAborts h).scnt[i] = p.scnt[i].disturbed .testAbort := by
  obtain ⟨-, -, scnt, -, topo, -⟩ := p.testDropped_keeps h
  have k := (p.testDropped h).disturbAdjacent_get p.tbase.ms h .testAbort ((Part.twoSections_congr h topo).mpr two) i
    ((Part.adjacent_congr h topo).symm ▸ hi)
  simp only [Part.testAborts_scnt, k, scnt]

theorem Part.testAborts_scnt_get_other (i : SectionId) (hi : i ∉ p.adjacent h) :
    (p.testAborts h).scnt[i] = p.scnt[i] := by
  obtain ⟨-, -, scnt, -, topo, -⟩ := p.testDropped_keeps h
  have k := (p.testDropped h).disturbAdjacent_get_other p.tbase.ms h .testAbort i
    ((Part.adjacent_congr h topo).symm ▸ hi)
  simp only [Part.testAborts_scnt, k, scnt]

/-- The sweeps beside the head break, the test's slot fails (R43, R102). -/
theorem Part.testAborts_slots_get (n : SlotId) :
    (p.testAborts h).slots[n] =
      if p.gen.slot = some n ∧ p.slots[n].serves 4#8 h.val then
        { p.slots[n] with state := .failed, result := some .testAbort }
      else p.slotDisturbed h n := by
  obtain ⟨-, -, scnt, slots, topo, -⟩ := p.testDropped_keeps h
  rw [Part.testAborts_eq, Part.reportTest_eq, Part.reportSlot_slots_get, Part.disturbAdjacent_slots_get,
    Part.slotDisturbed_congr h topo scnt slots]
  refine if_ctx_congr (and_congr_right fun _ => p.slotDisturbed_serves h n _) (fun k => ?_) fun _ => rfl
  rw [p.slotDisturbed_of_test h n (.inl k.2)]

/-- The TEST record, the sections' records, the REQUEST record (R102; log entry 11). -/
theorem Part.Counts.testAborts_jrnl {p : Part} (c : p.Counts) (two : p.twoSections h) :
    (p.testAborts h).jrnl =
      p.reportJournal p.tbase.ms p.gen.slot 4#8 h.val .testAbort
        (p.disturbJournal p.tbase.ms h .testAbort
          (p.journalAfter p.tbase.ms (.test h p.gen.dir .abort (recordStep p.gen.step) (some .unexpectedEdge)))) := by
  obtain ⟨-, -, scnt, slots, topo, tbase⟩ := p.testDropped_keeps h
  obtain ⟨c', jrnl⟩ := c.testDropped h
  have disturbed := c'.disturbAdjacent_jrnl p.tbase.ms h .testAbort ((Part.twoSections_congr h topo).mpr two)
  have slots_get := (p.testDropped h).disturbAdjacent_slots_get p.tbase.ms h .testAbort
  have active := ((p.testDropped h).logs_disturbAdjacent p.tbase.ms h .testAbort).jrnl.keeps.1
  obtain kept : ((p.testDropped h).disturbAdjacent p.tbase.ms h .testAbort).topo = p.topo ∧
      ((p.testDropped h).disturbAdjacent p.tbase.ms h .testAbort).tbase = p.tbase := by simp [topo, tbase]
  rw [Part.testAborts_eq, Part.reportTest_eq]
  generalize (p.testDropped h).disturbAdjacent p.tbase.ms h .testAbort = q at *
  obtain ⟨topo', tbase'⟩ := kept
  have cq : q.Counts := c'.congr (topo'.trans topo.symm) active
  rw [cq.reportSlot_jrnl, disturbed, jrnl, Part.disturbJournal_congr topo scnt slots, tbase']
  refine Part.reportJournal_congr p _ _ 4#8 h.val .testAbort q _ topo' fun n _ => ?_
  have same : q.slots[n] = p.slotDisturbed h n := (slots_get n).trans (Part.slotDisturbed_congr h topo scnt slots n)
  rw [same]
  refine ⟨p.slotDisturbed_serves h n _, fun k => ?_⟩
  rw [p.slotDisturbed_of_test h n (.inl k)]
  exact ⟨rfl, rfl⟩

/-- An unexpected release queues the TEST record and sends the notice (R104, R105). -/
theorem Part.releaseAborts_keeps (check : TestCheck) :
    (p.releaseAborts h check).gen = p.gen.toIdle ∧
      (p.releaseAborts h check).sent = { p.sent with scnt := p.sent.scnt ++ [.testAbort h] } := by
  simp [Part.releaseAborts]

theorem Part.Counts.releaseAborts_jrnl {p : Part} (c : p.Counts) (check : TestCheck) :
    (p.releaseAborts h check).jrnl =
      p.journalAfter p.tbase.ms (.test h p.gen.dir .releaseAbort none (some check)) := by
  have c' : ((p.setGen p.gen.toIdle).sendScnt (.testAbort h)).Counts := c.congr rfl rfl
  exact c'.record_jrnl _ _

end

/-- Settles O35. -/
theorem edgeCopyIsJudged : Obligations.EdgeCopyIsJudged := by
  refine ⟨fun s c rest up copies idle => ?_, fun s c rest d counts copies dir => ?_⟩
  · refine (State.powered_up _ _ up).trans ?_
    rw [Part.takeCopy_of_cons copies, Part.judgeCopy_of_idle (p := s.part.setSent { s.part.sent with copies := rest }) idle]
    rfl
  · have exec_ : exec .edgeCopy s = .next (s.withPart s.part.takeCopy) := State.powered_up _ _ counts.1
    have taken := Part.takeCopy_of_cons copies
    rw [taken] at exec_
    generalize ep : s.part.setSent { s.part.sent with copies := rest } = p at exec_
    have kept : p.gen = s.part.gen ∧ p.slots = s.part.slots ∧ p.hdec = s.part.hdec ∧ p.tbase = s.part.tbase ∧
        p.topo = s.part.topo ∧ p.jrnl = s.part.jrnl ∧ p.scnt = s.part.scnt ∧ p.supv = s.part.supv ∧
        p.sent = { s.part.sent with copies := rest } := by
      rw [← ep]
      exact ⟨rfl, rfl, rfl, rfl, rfl, rfl, rfl, rfl, rfl⟩
    obtain ⟨gen, slots, hdec, tbase, topo, jrnl, scnt, supv, sent⟩ := kept
    have cp : p.Counts := counts.counts.congr topo (by rw [jrnl])
    have same : p = { s.part with sent := { s.part.sent with copies := rest } } := ep.symm
    rw [← gen] at dir
    refine ⟨?_, ?_, ?_, ?_, ?_⟩ <;> rw [← gen]
    · intro other
      rw [exec_, p.judgeCopy_of_other other, same]
    · intro target run mem open_ fresh
      rw [exec_, Part.judgeCopy_of_running target run, if_pos ((p.gen.expects_iff c dir).mpr ⟨mem, open_, fresh⟩), same]
      rfl
    · intro target run bad
      have no : ¬ p.gen.expects c = true := by
        rw [p.gen.expects_iff c dir]
        rintro ⟨mem, open_, fresh⟩
        obtain k | k | k := bad
        · exact k mem
        · exact nomatch k.symm.trans open_
        · exact nomatch k.symm.trans fresh
      rw [exec_, Part.judgeCopy_of_running target run, if_neg no]
      have adjacent := Part.adjacent_congr c.h topo
      obtain ⟨supv', topo', -, -, sent'⟩ := p.testAborts_frame c.h
      have gen' := p.testAborts_gen c.h
      have idle : (p.testAborts c.h).gen.state = .idle ∧ (p.testAborts c.h).gen.target = none ∧
          (p.testAborts c.h).gen.slot = none ∧ (p.testAborts c.h).gen.expectA = false ∧
          (p.testAborts c.h).gen.expectB = false := by
        rw [gen']
        exact ⟨rfl, rfl, rfl, rfl, rfl⟩
      obtain ⟨state, none, none', lowA, lowB⟩ := idle
      have hdec_get (g : HeadId) := p.setHdec_get c.h g (p.hdec[c.h].placed p.tbase.ms)
      have hdec' : (p.testAborts c.h).hdec = (p.setHdec c.h (p.hdec[c.h].placed p.tbase.ms)).hdec :=
        p.testAborts_hdec c.h
      refine ⟨_, rfl, state, none, none', lowA, lowB, ?_, fun g ne => ?_, fun i hi => ?_,
        fun two => ⟨fun i hi => ?_, fun n => ?_, ?_⟩, sent'.trans sent, supv'.trans supv, topo'.trans topo, rfl, rfl⟩
      · rw [State.withPart_part, hdec', hdec_get, if_pos rfl, hdec, tbase]
      · rw [State.withPart_part, hdec', hdec_get, if_neg ne.symm, hdec]
      · exact (p.testAborts_scnt_get_other c.h i (adjacent.symm ▸ hi)).trans (by rw [scnt])
      · exact (p.testAborts_scnt_get c.h ((Part.twoSections_congr c.h topo).mpr two) i (adjacent.symm ▸ hi)).trans
          (by rw [scnt])
      · refine (p.testAborts_slots_get c.h n).trans ?_
        rw [slots, Part.slotDisturbed_congr c.h topo scnt slots]
      · refine (cp.testAborts_jrnl c.h ((Part.twoSections_congr c.h topo).mpr two)).trans ?_
        rw [Part.reportJournal_of_slots topo slots, Part.disturbJournal_congr topo scnt slots, Part.journalAfter,
          Generator.dir_of_some dir, topo, tbase, jrnl]
        rfl
    · intro target rel fall
      obtain ⟨a, b⟩ := Part.judgeCopy_of_released (c := c) target rel fall
      refine ⟨fun y held => ?_, fun y held => ?_⟩
      · rw [exec_, a y held, same]
        rfl
      · rw [exec_, b y held, same]
        rfl
    · intro target rel bad
      rw [exec_, Part.judgeCopy_of_unreleased target rel bad]
      obtain ⟨hdec', scnt', supv', slots', topo', -⟩ := p.releaseAborts_frame c.h .unexpectedEdge
      obtain ⟨gen', sent'⟩ := p.releaseAborts_keeps c.h .unexpectedEdge
      have idle : (p.releaseAborts c.h .unexpectedEdge).gen.state = .idle ∧
          (p.releaseAborts c.h .unexpectedEdge).gen.target = none := by
        rw [gen']
        exact ⟨rfl, rfl⟩
      refine ⟨_, rfl, idle.1, idle.2, sent'.trans (by rw [sent]), ?_, hdec'.trans hdec, scnt'.trans scnt,
        supv'.trans supv, slots'.trans slots, topo'.trans topo, rfl, rfl⟩
      refine (cp.releaseAborts_jrnl c.h .unexpectedEdge).trans ?_
      rw [Part.journalAfter, Generator.dir_of_some dir, topo, tbase, jrnl]
      rfl

end Sys2Proof.Machine

/-! SUPPORT. The end of the release time, and which operation takes the tick that TGEN has in hand (R95 to R98, R105,
R166). -/

namespace Sys2Proof.Machine

open Sys2Proof

/-! ### The end of the release time -/

section
variable {p : Part} {h : HeadId}

theorem Part.releaseTimeEnd_of_last (target : p.gen.target = some h) (due : p.gen.tickDue = true)
    (rel : p.gen.state = .releasing) (last : p.gen.releaseLeft = some 1) : p.releaseTimeEnd = p.releaseEnds h := by
  rw [Part.releaseTimeEnd, target]
  exact if_pos ⟨due, rel, last⟩

theorem Part.releaseEnds_gen (p : Part) (h : HeadId) : (p.releaseEnds h).gen = p.gen.toIdle := by
  unfold Part.releaseEnds
  split
  · exact (p.releaseAborts_keeps h .notIdle).1
  · rfl

theorem Part.releaseEnds_of_unsettled (ph : p.hdec[h].phase = .unsettled) :
    p.releaseEnds h = p.releaseAborts h .notIdle := if_pos ph

theorem Part.releaseEnds_of_settled (ph : p.hdec[h].phase ≠ .unsettled) :
    p.releaseEnds h = p.setGen p.gen.toIdle := if_neg ph

end

/-! ### A tick in hand -/

section
variable {p : Part}

/-- A tick that has been taken is taken no more. -/
theorem Part.ticks_of_taken (taken : p.gen.tickDue = false) :
    p.midStepSample = p ∧ p.followWindowClose = p ∧ p.stepDeadline = p ∧ p.releaseTimeEnd = p := by
  have due : ¬ p.gen.tickDue = true := Bool.eq_false_iff.mp taken
  refine ⟨if_neg fun k => due k.1, if_neg fun k => due k.1, ?_, ?_⟩
  · unfold Part.stepDeadline
    split
    · rfl
    · exact if_neg fun k => due k.1
  · unfold Part.releaseTimeEnd
    split
    · rfl
    · exact if_neg fun k => due k.1

theorem Part.tickWithinStep_tickDue (p : Part) : p.tickWithinStep.gen.tickDue = false := by
  obtain ⟨l, e⟩ := p.tickWithinStep_keeps
  rw [e]

theorem Part.takePendingTick_of_running (run : p.gen.state = .running) :
    p.takePendingTick = p.patternStart.midStepSample.followWindowClose.stepDeadline := by
  refine if_neg ?_
  rw [run]
  exact nofun

/-- The pattern's start takes the tick (R95). -/
theorem Part.takePendingTick_of_start (due : p.gen.tickDue = true) (run : p.gen.state = .running) (zero : p.gen.step = 0) :
    p.takePendingTick = p.patternStart := by
  have taken : p.patternStart.gen.tickDue = false := by
    rw [Part.patternStart, if_pos ⟨due, run, zero⟩]
    rfl
  obtain ⟨mid, window, deadline, -⟩ := Part.ticks_of_taken taken
  rw [Part.takePendingTick_of_running run, mid, window, deadline]

theorem Part.patternStart_of_step (step : 1 ≤ p.gen.step) : p.patternStart = p := if_neg fun k => by omega

theorem Part.midStepSample_of_mid (due : p.gen.tickDue = true) (run : p.gen.state = .running)
    (mid : p.gen.midStep p.tbase.ms p.topo.params.stepTime = true) : p.midStepSample = p.tickWithinStep :=
  if_pos ⟨due, run, mid⟩

theorem Part.followWindowClose_of_closes (due : p.gen.tickDue = true) (run : p.gen.state = .running)
    (closes : p.gen.closesWindow p.tbase.ms = true) : p.followWindowClose = p.tickWithinStep :=
  if_pos ⟨due, run, closes⟩

/-- The middle of step 2 and the end of the follow window are one update of the tick that is either (R96, R98). -/
theorem Part.takePendingTick_of_within (due : p.gen.tickDue = true) (run : p.gen.state = .running) (step : 1 ≤ p.gen.step)
    (acts : p.gen.midStep p.tbase.ms p.topo.params.stepTime = true ∨ p.gen.closesWindow p.tbase.ms = true) :
    p.takePendingTick = p.tickWithinStep := by
  obtain ⟨-, window, deadline, -⟩ := Part.ticks_of_taken p.tickWithinStep_tickDue
  rw [Part.takePendingTick_of_running run, Part.patternStart_of_step step]
  by_cases mid : p.gen.midStep p.tbase.ms p.topo.params.stepTime = true
  · rw [Part.midStepSample_of_mid due run mid, window, deadline]
  · have none : p.midStepSample = p := if_neg fun k => mid k.2.2
    rw [none, Part.followWindowClose_of_closes due run (acts.resolve_left mid), deadline]

/-- A tick that is neither goes to the deadline of the step (R97). -/
theorem Part.takePendingTick_of_beside (run : p.gen.state = .running) (step : 1 ≤ p.gen.step)
    (mid : ¬ p.gen.midStep p.tbase.ms p.topo.params.stepTime = true) (window : ¬ p.gen.closesWindow p.tbase.ms = true) :
    p.takePendingTick = p.stepDeadline := by
  have noMid : p.midStepSample = p := if_neg fun k => mid k.2.2
  have noWindow : p.followWindowClose = p := if_neg fun k => window k.2.2
  rw [Part.takePendingTick_of_running run, Part.patternStart_of_step step, noMid, noWindow]

theorem Part.takePendingTick_of_releasing (rel : p.gen.state = .releasing) :
    p.takePendingTick = p.lowerPending.releaseTimeEnd := if_pos rel

end

/-! ### The giving of a tick -/

section
variable (g : Generator) (ms : Word) (t : Nat)

theorem Generator.giveTick_of_running (run : g.state = .running) :
    g.giveTick ms t = { g with tickDue := g.tickActs ms t } := by
  rw [Generator.giveTick, run]

theorem Generator.giveTick_of_idle (idle : g.state = .idle) : g.giveTick ms t = { g with tickDue := false } := by
  rw [Generator.giveTick, idle]

theorem Generator.giveTick_of_releasing (rel : g.state = .releasing) :
    g.giveTick ms t = if g.releaseLeft = some 1 then { g with tickDue := true } else g.lowerRelease := by
  rw [Generator.giveTick, rel]

theorem Generator.tickActs_eq :
    g.tickActs ms t =
      decide (g.step = 0 ∨ (1 ≤ g.step ∧ g.followOpen = true ∧ g.stepStart = some (ms - 1#32)) ∨
        (g.step = 2 ∧ g.stepStart = some (ms - BitVec.ofNat 32 (t / 2))) ∨
        (1 ≤ g.step ∧ g.stepDeadline = some ms)) := by
  rw [Bool.eq_iff_iff, decide_eq_true_iff]
  simp only [Generator.tickActs, Bool.or_eq_true, decide_eq_true_eq, Generator.closesWindow_iff,
    Generator.midStep_iff, Generator.atDeadline_iff, or_assoc]

theorem Generator.lowerRelease_of_left {n : Nat} (left : g.releaseLeft = some (n + 2)) :
    g.lowerRelease = { g with releaseLeft := some (n + 1), tickDue := false } := by
  rw [Generator.lowerRelease, left]
  rfl

end

/-- Settles O37. -/
theorem releaseTimeEndJudgesHead : Obligations.ReleaseTimeEndJudgesHead := by
  refine ⟨fun s h d counts rel due last target dir => ?_, fun g ms t => ⟨?_, fun n rel left => ?_, fun rel last => ?_, ?_⟩,
    fun s up due none => ?_⟩
  · have exec_ : exec .releaseTimeEnd s = .next (s.withPart s.part.releaseTimeEnd) := State.powered_up _ _ counts.1
    rw [exec_, Part.releaseTimeEnd_of_last target due rel last]
    obtain ⟨hdec, scnt, supv, slots, topo, -⟩ := s.part.releaseEnds_frame h
    have idle : (s.part.releaseEnds h).gen.state = .idle ∧ (s.part.releaseEnds h).gen.target = none ∧
        (s.part.releaseEnds h).gen.direction = none ∧ (s.part.releaseEnds h).gen.releaseLeft = none ∧
        (s.part.releaseEnds h).gen.reportPending = s.part.gen.reportPending := by
      rw [Part.releaseEnds_gen]
      exact ⟨rfl, rfl, rfl, rfl, rfl⟩
    obtain ⟨state, none, none', none'', pending⟩ := idle
    refine ⟨_, rfl, state, none, none', none'', pending, fun ph => ?_, fun ph => ?_, hdec, scnt, supv, slots, topo, rfl,
      rfl⟩
    · rw [State.withPart_part, Part.releaseEnds_of_unsettled ph, (s.part.releaseAborts_keeps h .notIdle).2,
        counts.counts.releaseAborts_jrnl, Generator.dir_of_some dir]
      exact ⟨rfl, rfl⟩
    · have settled : s.part.hdec[h].phase ≠ .unsettled := fun k => by
        rw [k] at ph
        simp at ph
      rw [State.withPart_part, Part.releaseEnds_of_settled settled]
      exact ⟨rfl, rfl⟩
  · exact g.giveTick_of_idle ms t
  · rw [g.giveTick_of_releasing ms t rel, if_neg (by rw [left]; simp), g.lowerRelease_of_left left]
  · rw [g.giveTick_of_releasing ms t rel, if_pos last]
  · intro run
    rw [g.giveTick_of_running ms t run, g.tickActs_eq]
  · have taken : s.part.lastTickTaken = s.part.takePendingTick := by
      rw [Part.lastTickTaken, Part.examineAll_of_not none]
    rw [taken]
    refine ⟨fun n rel left => ?_, fun rel last => ?_, fun run zero => ?_, fun run step open_ start => ?_,
      fun run step start => ?_, fun run step deadline window mid => ?_⟩
    · have lowered : s.part.lowerPending = s.part.setGen s.part.gen.lowerRelease :=
        if_pos ⟨due, rel, by rw [left]; simp⟩
      have gone : (s.part.setGen s.part.gen.lowerRelease).gen.tickDue = false := rfl
      obtain ⟨-, -, -, still⟩ := Part.ticks_of_taken gone
      rw [Part.takePendingTick_of_releasing rel, lowered, still, s.part.gen.lowerRelease_of_left left]
      rfl
    · have last : s.part.lowerPending = s.part := if_neg fun k => k.2.2 last
      rw [Part.takePendingTick_of_releasing rel, last]
      exact State.powered_up _ _ up
    · rw [Part.takePendingTick_of_start due run zero]
      exact State.powered_up _ _ up
    · have closes := (s.part.gen.closesWindow_iff s.part.tbase.ms).mpr ⟨step, open_, start⟩
      rw [Part.takePendingTick_of_within due run step (.inr closes), ← Part.followWindowClose_of_closes due run closes]
      exact State.powered_up _ _ up
    · have acts := (s.part.gen.midStep_iff s.part.tbase.ms s.part.topo.params.stepTime).mpr ⟨step, start⟩
      rw [Part.takePendingTick_of_within due run (by omega) (.inl acts), ← Part.midStepSample_of_mid due run acts]
      exact State.powered_up _ _ up
    · rw [Part.takePendingTick_of_beside run step (mt (Generator.midStep_iff _ _ _).mp mid)
        fun k => window ((Generator.closesWindow_iff _ _).mp k).2]
      exact State.powered_up _ _ up

end Sys2Proof.Machine
